-- ==== Sys2Proof/Word.lean ====
section
/-! DEFINITION. The word types of the spec: bytes of the bus, 24-bit register values, 32-bit responses,
48-bit request words (00_scope.md R7, 30_encoding.md R115). A register address and a command opcode
are held in a byte and masked to 4 and 6 bits where a frame is built (R101, R104, R140). -/

namespace Sys2Proof

/-- One byte on the bus (R72). -/
abbrev Byte := BitVec 8

/-- A 24-bit register value (R42, `W_REG24`). -/
abbrev Word24 := BitVec 24

/-- A response (R37, R171). -/
abbrev Word32 := BitVec 32

/-- A request word (R115). -/
abbrev ReqWord := BitVec 48

end Sys2Proof
end

