-- ==== Sys2Proof/Config.lean ====
section
/-! DEFINITION. What an implementation fixes: the types of the parameters of 00_scope.md R7 (their values are in
Machine/Parameters.lean), and the free values, which have no body: nothing can be proved about them. -/

namespace Sys2Proof

/-- The bit order of the bus. R7 fixes MSB first and R73 says it cannot be switched. -/
inductive BitOrder where
  | msbFirst
deriving DecidableEq, Repr

/-- `P_START` (R105): START is bit 7 (0x80) or bit 6 (0x40); MODE is the other one. -/
inductive StartBit where
  | bit7
  | bit6
deriving DecidableEq, Repr

/-- `P_RATE_ARG_MASK` (R167, U26): 0x07 or 0x3F. -/
inductive RateArgMask where
  | low3
  | low6
deriving DecidableEq, Repr

/-- The nine registers of R42. -/
inductive Reg where
  | stat
  | ctrl1
  | ctrl2
  | ctrl3
  | data
  | soc
  | sgc
  | scoc
  | scgc
deriving DecidableEq, Repr

/-- REG_ADDR (R42): the address of each register. -/
structure RegAddr where
  stat  : Byte
  ctrl1 : Byte
  ctrl2 : Byte
  ctrl3 : Byte
  data  : Byte
  soc   : Byte
  sgc   : Byte
  scoc  : Byte
  scgc  : Byte
deriving DecidableEq, Repr

/-- A row of FIELD_MAP (R56): the register, whose address REG_ADDR gives, the mask, the shift and the width. -/
structure Field where
  reg   : Reg
  mask  : Byte
  shift : Nat
  width : Nat
deriving DecidableEq, Repr

/-- FIELD_MAP (R50 to R53, R56): one row for each field, under its name. -/
structure FieldMap where
  rdy    : Field
  mstat  : Field
  ur     : Field
  or     : Field
  rate   : Field
  sysgor : Field
  linef  : Field
  ub     : Field
  extclk : Field
  refbuf : Field
  sigbuf : Field
  format : Field
  scycle : Field
  dir    : Field
  dio    : Field
  dgain  : Field
  nosysg : Field
  nosyso : Field
  noscg  : Field
  nosco  : Field
deriving DecidableEq, Repr

/-- What the chip fixes and the spec takes by decision or from the source's unaudited literals (R7, R8, U24): the frame
constants, the command opcodes, the two maps, the default bytes, the limits and the waits. The spec's values are
`Chip.default`. -/
structure Chip where
  /-- START | MODE (R102). -/
  startMode    : Byte
  /-- P_READ (R102). -/
  read         : Byte
  /-- P_CAL0 (R106). -/
  cal0         : Byte
  /-- P_CAL1 (R106). -/
  cal1         : Byte
  /-- P_IMPD (R106). -/
  impd         : Byte
  /-- P_RATE_FIELD (R106), as a mask of the opcode. -/
  rateField    : Byte
  /-- P_PD_OPCODE (R7). -/
  pdOpcode     : Byte
  /-- REG_ADDR (R42). -/
  regAddr      : RegAddr
  /-- FIELD_MAP (R56). -/
  fields       : FieldMap
  /-- DEFAULT_CTRL1 (R7). -/
  defaultCtrl1 : Byte
  /-- DEFAULT_CTRL2 (R7). -/
  defaultCtrl2 : Byte
  /-- DEFAULT_CTRL3 (R7). -/
  defaultCtrl3 : Byte
  /-- DEFAULT_RATE (R7). -/
  defaultRate  : Nat
  /-- GAIN_MAX (R7). -/
  gainMax      : Nat
  /-- The least T_SELFCAL_MS (R7). -/
  selfCalLeast : Nat
  /-- The least T_SYSCAL_MS (R7). -/
  sysCalLeast  : Nat
  /-- T_POLL_US (R7). -/
  pollUs       : Nat
deriving DecidableEq, Repr

/-- The parameters of R7: every value it marks decision or OPEN, and the literals of U24 (R8). State holds one value of
them, constant in a run. The two settle times are held as what they have above their least values, so that they are no
shorter in any value (notes/assumptions/9.md). -/
structure Params where
  /-- The chip's constants. -/
  chip          : Chip
  /-- P_START (R105); P_MODE is the other bit of START | MODE. -/
  start         : StartBit
  /-- P_RATE_ARG_MASK (R167). -/
  rateArgMask   : RateArgMask
  /-- P_READ_TIMEOUT (R306): `none`, or the count of not-ready samples at which `read` gives up. -/
  readTimeout   : Option Nat
  /-- P_DUMMY (R108). -/
  dummy         : Byte
  /-- P_READY_ASSERTED (R7, D13): the level of the ready line that means data available. -/
  readyAsserted : Bool
  /-- P_CS_ACTIVE (R7, D14): the pin level of an asserted chip select. -/
  csActive      : Bool
  /-- P_SPI_MODE (R7, D28). -/
  spiMode       : Fin 4
  /-- P_CLK_DIV (R7, D28), OPEN. -/
  clkDiv        : Nat
  /-- What T_SELFCAL_MS (R7, D15), OPEN, has above its least value. -/
  selfCalMargin : Nat
  /-- What T_SYSCAL_MS (R7, D15), OPEN, has above its least value. -/
  sysCalMargin  : Nat
deriving DecidableEq, Repr

namespace Config

/-- P_CLK_DIV of the implementation, OPEN in R7. -/
opaque clkDiv : Nat

/-- What the implementation's T_SELFCAL_MS has above its least value, OPEN in R7. -/
opaque selfCalMargin : Nat

/-- What the implementation's T_SYSCAL_MS has above its least value, OPEN in R7. -/
opaque sysCalMargin : Nat

/-- The byte the Device oracle answers at the n-th draw (R84, U1) where no answer is scripted. -/
opaque freeByte : Nat → Byte

/-- The ready level the Device oracle answers at the n-th draw (R84, U1) where no level is scripted. -/
opaque freeLevel : Nat → Bool

/-- What a GPIO getter answers for a pin that does not exist, at the n-th draw (R244, U4). -/
opaque freePin : Nat → Bool

end Config

end Sys2Proof
end

