-- ==== Sys2Proof/Machine/Parameters.lean ====
section
/-! DEFINITION. The values of the parameters of 00_scope.md R7 and how the machine reads them: the spec's chip constants
(frame bits R102, opcodes R106, REG_ADDR R42, FIELD_MAP R50 to R53, default bytes, limits and waits), the defaults, and
what makes a set of chip constants coherent. Each value stands here and nowhere else (R8); those the spec itself took
from general knowledge (G2, G3, G5, G7 to G10) are notes/assumptions/10.md. -/

namespace Sys2Proof

/-! ## Values -/

/-- REG_ADDR (R42). -/
def RegAddr.default : RegAddr where
  stat  := 0x0
  ctrl1 := 0x1
  ctrl2 := 0x2
  ctrl3 := 0x3
  data  := 0x4
  soc   := 0x5
  sgc   := 0x6
  scoc  := 0x7
  scgc  := 0x8

/-- FIELD_MAP (R50 to R53, R56). -/
def FieldMap.default : FieldMap where
  rdy    := ⟨.stat, 0x01, 0, 1⟩
  mstat  := ⟨.stat, 0x02, 1, 1⟩
  ur     := ⟨.stat, 0x04, 2, 1⟩
  or     := ⟨.stat, 0x08, 3, 1⟩
  rate   := ⟨.stat, 0x70, 4, 3⟩
  sysgor := ⟨.stat, 0x80, 7, 1⟩
  linef  := ⟨.ctrl1, 0x80, 7, 1⟩
  ub     := ⟨.ctrl1, 0x40, 6, 1⟩
  extclk := ⟨.ctrl1, 0x20, 5, 1⟩
  refbuf := ⟨.ctrl1, 0x10, 4, 1⟩
  sigbuf := ⟨.ctrl1, 0x08, 3, 1⟩
  format := ⟨.ctrl1, 0x04, 2, 1⟩
  scycle := ⟨.ctrl1, 0x02, 1, 1⟩
  dir    := ⟨.ctrl2, 0xF0, 4, 4⟩
  dio    := ⟨.ctrl2, 0x0F, 0, 4⟩
  dgain  := ⟨.ctrl3, 0xE0, 5, 3⟩
  nosysg := ⟨.ctrl3, 0x10, 4, 1⟩
  nosyso := ⟨.ctrl3, 0x08, 3, 1⟩
  noscg  := ⟨.ctrl3, 0x04, 2, 1⟩
  nosco  := ⟨.ctrl3, 0x02, 1, 1⟩

/-- The chip constants of R7. -/
def Chip.default : Chip where
  startMode    := 0xC0
  read         := 0x01
  cal0         := 0x10
  cal1         := 0x20
  impd         := 0x08
  rateField    := 0x07
  pdOpcode     := 0x08
  regAddr      := .default
  fields       := .default
  defaultCtrl1 := 0xC0
  defaultCtrl2 := 0xF5
  defaultCtrl3 := 0x1E
  defaultRate  := 0x3
  gainMax      := 4
  selfCalLeast := 200
  sysCalLeast  := 100
  pollUs       := 1

/-- The defaults of R7. -/
def Params.default : Params where
  chip          := .default
  start         := .bit7
  rateArgMask   := .low3
  readTimeout   := none
  dummy         := 0x00
  readyAsserted := false
  csActive      := false
  spiMode       := 0
  clkDiv        := Config.clkDiv
  selfCalMargin := Config.selfCalMargin
  sysCalMargin  := Config.sysCalMargin

/-! ## Reading the maps -/

/-- The registers, in the order of R42. -/
def Reg.all : List Reg := [.stat, .ctrl1, .ctrl2, .ctrl3, .data, .soc, .sgc, .scoc, .scgc]

/-- The width of a register in bytes (R42, R48). -/
def Reg.bytes : Reg → Nat
  | .stat | .ctrl1 | .ctrl2 | .ctrl3 => 1
  | .data | .soc | .sgc | .scoc | .scgc => 3

/-- The address of a register in this map. -/
def RegAddr.at (a : RegAddr) (r : Reg) : Byte :=
  match r with
  | .stat => a.stat
  | .ctrl1 => a.ctrl1
  | .ctrl2 => a.ctrl2
  | .ctrl3 => a.ctrl3
  | .data => a.data
  | .soc => a.soc
  | .sgc => a.sgc
  | .scoc => a.scoc
  | .scgc => a.scgc

/-- REG_ADDR of a register (R42). -/
def Params.addr (p : Params) (r : Reg) : Byte := p.chip.regAddr.at r

/-- The register at an address, if it names one (R42). -/
def Params.regAt (p : Params) (addr : Byte) : Option Reg := Reg.all.find? (fun r => p.addr r == addr)

/-- The rows of FIELD_MAP. -/
def FieldMap.rows (m : FieldMap) : List Field :=
  [m.rdy, m.mstat, m.ur, m.or, m.rate, m.sysgor, m.linef, m.ub, m.extclk, m.refbuf, m.sigbuf, m.format, m.scycle,
   m.dir, m.dio, m.dgain, m.nosysg, m.nosyso, m.noscg, m.nosco]

/-- The mask of a field is its width at its shift, in an 8-bit register (R56). -/
def Field.coherent (f : Field) : Bool :=
  f.reg.bytes == 1 && f.mask == BitVec.ofNat 8 (2 ^ f.width - 1) <<< f.shift

/-- The opcodes that are no rate (R111). -/
def Chip.opcodes (c : Chip) : List Byte := [c.pdOpcode, c.cal0, c.cal1, c.cal0 ||| c.cal1]

/-- Chip constants under which no two encodings are alike: START | MODE are bits 7 and 6 and READ is bit 0 (R102), the
rate field holds a 3-bit code and the other opcodes are distinct, have 6 bits and lie outside it (R106, R114), addresses
have 4 bits and are distinct (R42), and each row of FIELD_MAP is a field (R56). -/
def Chip.coherent (c : Chip) : Bool :=
  c.startMode == 0xC0 && c.read == 0x01 && c.rateField &&& 0x07 == 0x07 &&
  c.opcodes.all (fun o => o &&& 0x3F == o && o &&& c.rateField != o) && decide c.opcodes.Nodup &&
  (Reg.all.map c.regAddr.at).all (fun a => a &&& 0xF == a) && decide (Reg.all.map c.regAddr.at).Nodup &&
  c.fields.rows.all Field.coherent

end Sys2Proof

namespace Sys2Proof.Machine

/-! ## Frame bits, masks, limits and waits -/

/-- P_START (R105). -/
def pStart : StartBit → Byte
  | .bit7 => 0x80
  | .bit6 => 0x40

/-- P_MODE, the other bit of START | MODE (R105). -/
def pMode (p : Params) : Byte := p.chip.startMode ^^^ pStart p.start

/-- P_RATE_ARG_MASK as a mask (R167). -/
def rateMask : RateArgMask → Byte
  | .low3 => 0x07
  | .low6 => 0x3F

/-- N_GPIO (R7, fixed by the source). -/
def nGpio : Nat := 4

/-- P_BIT_ORDER (R7, fixed by the source). -/
def pBitOrder : BitOrder := .msbFirst

/-- T_SELFCAL_MS (R7). -/
def tSelfcalMs (p : Params) : Nat := p.chip.selfCalLeast + p.selfCalMargin

/-- T_SYSCAL_MS (R7). -/
def tSyscalMs (p : Params) : Nat := p.chip.sysCalLeast + p.sysCalMargin

end Sys2Proof.Machine
end

