-- ==== Sys2Proof/Machine/Flags.lean ====
section
/-! DEFINITION. The Block has no flags register (10_state.md R41); the flag-like things of the spec are the fields of
the 8-bit device registers. Here are their computations: the new byte of a single-bit and of a multi-bit field
(40_framer.md R146, R147) and the value of a field (R148). -/

namespace Sys2Proof.Machine

/-- `(old & ~mask) | (value ? mask : 0)` (R146). -/
def withBit (f : Field) (value : Bool) (old : Byte) : Byte :=
  (old &&& (0xFF ^^^ f.mask)) ||| (if value then f.mask else 0x00)

/-- `(old & ~mask) | ((code << shift) & mask)` (R147). -/
def withField (f : Field) (code : Nat) (old : Byte) : Byte :=
  (old &&& (0xFF ^^^ f.mask)) ||| ((BitVec.ofNat 8 code <<< f.shift) &&& f.mask)

/-- `(v & mask) >> shift` (R148). -/
def fieldOf (f : Field) (v : Byte) : Byte := (v &&& f.mask) >>> f.shift

end Sys2Proof.Machine
end

