-- ==== Sys2Proof/Machine/Operands.lean ====
section
/-! DEFINITION. Operand assembly (30_encoding.md R117): the rate argument, the gain clamp, the pin's field; and the
extensions of a value to a response (00_scope.md R10, 41_sequencer.md R171). -/

namespace Sys2Proof.Machine

/-- `a & P_RATE_ARG_MASK`, the opcode `setRate` sends (R117, R167). -/
def rateOpcode (m : RateArgMask) (a : Nat) : Byte := BitVec.ofNat 8 a &&& rateMask m

/-- `a & 0x7`, what `setRate` writes to the mirror (R167). -/
def rateMirrorOf (a : Nat) : BitVec 3 := BitVec.ofNat 3 a

/-- `min(a, GAIN_MAX)` (R117, R260). -/
def clampGain (p : Params) (g : Nat) : Nat := min g p.chip.gainMax

/-- The pin index is in range (R244). -/
def pinInRange (pin : Nat) : Bool := pin < nGpio

/-- The bit of `pin` inside a nibble of CTRL2 (R52, R240, R242). -/
def pinField (nibble : Field) (pin : Nat) : Field where
  reg   := nibble.reg
  mask  := 1 <<< (nibble.shift + pin)
  shift := nibble.shift + pin
  width := 1

/-- `zext_32` of a byte (R10). -/
def zext32 (v : Byte) : Word32 := v.setWidth 32

/-- `zext_32` of a Bool (R10, R171, R244). -/
def boolResponse (u : Bool) : Word32 := if u then 1 else 0

/-- `sext_32` (R10). -/
def sext32 (v : Word24) : Word32 := v.signExtend 32

end Sys2Proof.Machine
end

