-- ==== Sys2Proof/Syntax.lean ====
section
/-! DEFINITION. The instructions: one constructor per row of spec/opcode_table.json. The 49 requests of
30_encoding.md R116 with the operands of its operand column, written as in the text form of R120 (a number, a truth
value, 24 bits of data), and the 21 frame bytes of R101, R103, R104, each with the payload bytes that follow it
inside its transaction (R107; notes/assumptions/11.md). -/

namespace Sys2Proof

/-- An instruction. `pin`, `a`, `g` and `code` are numbers, and Sys2Proof.wellFormed says which of them fit their
field. -/
inductive Instr where
  /-- begin: request op 0x00, rule R161. -/
  | beginOp
  /-- end: request op 0x01, rule R162. -/
  | endOp
  /-- read: request op 0x02, rule R166. -/
  | readOp
  /-- selfCal: request op 0x03, rule R163. -/
  | selfCal
  /-- sysOffsetCal: request op 0x04, rule R164. -/
  | sysOffsetCal
  /-- sysGainCal: request op 0x05, rule R165. -/
  | sysGainCal
  /-- setRate: request op 0x06, rule R167. -/
  | setRate (a : Nat)
  /-- getReady: request op 0x08, rule R190. -/
  | getReady
  /-- getMeasStat: request op 0x09, rule R191. -/
  | getMeasStat
  /-- getUnderRange: request op 0x0A, rule R192. -/
  | getUnderRange
  /-- getOverRange: request op 0x0B, rule R193. -/
  | getOverRange
  /-- getRate: request op 0x0C, rule R194. -/
  | getRate
  /-- getSysGainOverRange: request op 0x0D, rule R195. -/
  | getSysGainOverRange
  /-- setLineFreq: request op 0x10, rule R210. -/
  | setLineFreq (b : Bool)
  /-- getLineFreq: request op 0x11, rule R211. -/
  | getLineFreq
  /-- setInputRange: request op 0x12, rule R212. -/
  | setInputRange (b : Bool)
  /-- getInputRange: request op 0x13, rule R213. -/
  | getInputRange
  /-- setClockSource: request op 0x14, rule R214. -/
  | setClockSource (b : Bool)
  /-- getClockSource: request op 0x15, rule R215. -/
  | getClockSource
  /-- setRefBuf: request op 0x16, rule R216. -/
  | setRefBuf (b : Bool)
  /-- getRefBuf: request op 0x17, rule R217. -/
  | getRefBuf
  /-- setSigBuf: request op 0x18, rule R218. -/
  | setSigBuf (b : Bool)
  /-- getSigBuf: request op 0x19, rule R219. -/
  | getSigBuf
  /-- setFormat: request op 0x1A, rule R220. -/
  | setFormat (b : Bool)
  /-- getFormat: request op 0x1B, rule R221. -/
  | getFormat
  /-- setConvMode: request op 0x1C, rule R222. -/
  | setConvMode (b : Bool)
  /-- getConvMode: request op 0x1D, rule R223. -/
  | getConvMode
  /-- setGpioDir: request op 0x20, rule R240. -/
  | setGpioDir (pin : Nat) (b : Bool)
  /-- getGpioDir: request op 0x21, rule R241. -/
  | getGpioDir (pin : Nat)
  /-- setGpioValue: request op 0x22, rule R242. -/
  | setGpioValue (pin : Nat) (b : Bool)
  /-- getGpioValue: request op 0x23, rule R243. -/
  | getGpioValue (pin : Nat)
  /-- setGain: request op 0x28, rule R260. -/
  | setGain (g : Nat)
  /-- getGain: request op 0x29, rule R261. -/
  | getGain
  /-- setNoSysGainCal: request op 0x2A, rule R262. -/
  | setNoSysGainCal (b : Bool)
  /-- getNoSysGainCal: request op 0x2B, rule R263. -/
  | getNoSysGainCal
  /-- setNoSysOffsetCal: request op 0x2C, rule R264. -/
  | setNoSysOffsetCal (b : Bool)
  /-- getNoSysOffsetCal: request op 0x2D, rule R265. -/
  | getNoSysOffsetCal
  /-- setNoSelfGainCal: request op 0x2E, rule R266. -/
  | setNoSelfGainCal (b : Bool)
  /-- getNoSelfGainCal: request op 0x2F, rule R267. -/
  | getNoSelfGainCal
  /-- setNoSelfOffsetCal: request op 0x30, rule R268. -/
  | setNoSelfOffsetCal (b : Bool)
  /-- getNoSelfOffsetCal: request op 0x31, rule R269. -/
  | getNoSelfOffsetCal
  /-- getSOC: request op 0x38, rule R280. -/
  | getSOC
  /-- setSOC: request op 0x39, rule R281. -/
  | setSOC (d : Word24)
  /-- getSGC: request op 0x3A, rule R282. -/
  | getSGC
  /-- setSGC: request op 0x3B, rule R283. -/
  | setSGC (d : Word24)
  /-- getSCOC: request op 0x3C, rule R284. -/
  | getSCOC
  /-- setSCOC: request op 0x3D, rule R285. -/
  | setSCOC (d : Word24)
  /-- getSCGC: request op 0x3E, rule R286. -/
  | getSCGC
  /-- setSCGC: request op 0x3F, rule R287. -/
  | setSCGC (d : Word24)
  /-- RFRAME_STAT: frame byte 0xC1, rule R140. -/
  | rframeStat
  /-- RFRAME_CTRL1: frame byte 0xC3, rule R140. -/
  | rframeCtrl1
  /-- RFRAME_CTRL2: frame byte 0xC5, rule R140. -/
  | rframeCtrl2
  /-- RFRAME_CTRL3: frame byte 0xC7, rule R140. -/
  | rframeCtrl3
  /-- RFRAME_DATA: frame byte 0xC9, rule R141. -/
  | rframeData
  /-- RFRAME_SOC: frame byte 0xCB, rule R141. -/
  | rframeSoc
  /-- RFRAME_SGC: frame byte 0xCD, rule R141. -/
  | rframeSgc
  /-- RFRAME_SCOC: frame byte 0xCF, rule R141. -/
  | rframeScoc
  /-- RFRAME_SCGC: frame byte 0xD1, rule R141. -/
  | rframeScgc
  /-- WFRAME_CTRL1: frame byte 0xC2, rule R142. -/
  | wframeCtrl1 (v : Byte)
  /-- WFRAME_CTRL2: frame byte 0xC4, rule R142. -/
  | wframeCtrl2 (v : Byte)
  /-- WFRAME_CTRL3: frame byte 0xC6, rule R142. -/
  | wframeCtrl3 (v : Byte)
  /-- WFRAME_SOC: frame byte 0xCA, rule R143. -/
  | wframeSoc (v : Word24)
  /-- WFRAME_SGC: frame byte 0xCC, rule R143. -/
  | wframeSgc (v : Word24)
  /-- WFRAME_SCOC: frame byte 0xCE, rule R143. -/
  | wframeScoc (v : Word24)
  /-- WFRAME_SCGC: frame byte 0xD0, rule R143. -/
  | wframeScgc (v : Word24)
  /-- CMD_RATE: frame byte 0x80, rule R167. -/
  | cmdRate (code : Nat)
  /-- CMD_POWERDOWN: frame byte 0x88, rule R162. -/
  | cmdPowerDown
  /-- CMD_SELFCAL: frame byte 0x90, rule R163. -/
  | cmdSelfCal
  /-- CMD_SYSOFFCAL: frame byte 0xA0, rule R164. -/
  | cmdSysOffCal
  /-- CMD_SYSGAINCAL: frame byte 0xB0, rule R165. -/
  | cmdSysGainCal
deriving DecidableEq, Repr

end Sys2Proof
end

