-- ==== Sys2Proof/WellFormed.lean ====
section
/-! DEFINITION. Which terms of `Instr` an encoding exists for: the operand `a` is an unsigned 8-bit value
(30_encoding.md R117) and the rate code of a command frame has 3 bits (R106). The other operands fit by their types. -/

namespace Sys2Proof

/-- `a` fits the 8-bit field of a request word (R115, R117). -/
def fitsA (a : Nat) : Bool := a < 256

/-- A rate code is the source's 3-bit code, RATE[2:0] of a command opcode (R106). Which opcode bits hold it,
P_RATE_FIELD, is a parameter. -/
def fitsRate (code : Nat) : Bool := code < 8

/-- The operands of `i` fit their fields. -/
def wellFormed (i : Instr) : Bool :=
  match i with
  | .setRate a => fitsA a
  | .setGpioDir pin _ | .getGpioDir pin | .setGpioValue pin _ | .getGpioValue pin => fitsA pin
  | .setGain g => fitsA g
  | .cmdRate code => fitsRate code
  | .beginOp | .endOp | .readOp | .selfCal | .sysOffsetCal | .sysGainCal
  | .getReady | .getMeasStat | .getUnderRange | .getOverRange | .getRate | .getSysGainOverRange
  | .setLineFreq _ | .getLineFreq | .setInputRange _ | .getInputRange | .setClockSource _ | .getClockSource
  | .setRefBuf _ | .getRefBuf | .setSigBuf _ | .getSigBuf | .setFormat _ | .getFormat | .setConvMode _ | .getConvMode
  | .getGain | .setNoSysGainCal _ | .getNoSysGainCal | .setNoSysOffsetCal _ | .getNoSysOffsetCal
  | .setNoSelfGainCal _ | .getNoSelfGainCal | .setNoSelfOffsetCal _ | .getNoSelfOffsetCal
  | .getSOC | .setSOC _ | .getSGC | .setSGC _ | .getSCOC | .setSCOC _ | .getSCGC | .setSCGC _
  | .rframeStat | .rframeCtrl1 | .rframeCtrl2 | .rframeCtrl3 | .rframeData | .rframeSoc | .rframeSgc
  | .rframeScoc | .rframeScgc | .wframeCtrl1 _ | .wframeCtrl2 _ | .wframeCtrl3 _ | .wframeSoc _ | .wframeSgc _
  | .wframeScoc _ | .wframeScgc _ | .cmdPowerDown | .cmdSelfCal | .cmdSysOffCal | .cmdSysGainCal => true

end Sys2Proof
end

