-- ==== Sys2Proof/Decode.lean ====
section
/-! DEFINITION. The two encodings of 30_encoding.md and their decoders: the frame bytes (R100 to R114) and the request
word (R115 to R119). Decoding is total and rejects by name; the encoder follows it. -/

namespace Sys2Proof

open Machine

/-- Why a word or a byte sequence is no instruction. -/
inductive DecodeError where
  /-- Bits 47:46 of a request word are not 00 (R118). -/
  | topBitsSet
  /-- The op of a request word is not in the table of R116 (R118). -/
  | unassignedOp
  /-- A transaction with no byte at all. -/
  | noFrameByte
  /-- START is missing (R112, R113). -/
  | startMissing
  /-- Bit 5 of a register-access frame is set (R113). -/
  | bit5Set
  /-- The address names no register the Block accesses that way (R109, R110, R113). -/
  | addressNeverSent
  /-- One of the 52 command opcodes without a meaning (R114). -/
  | commandNeverSent
  /-- A write frame with fewer payload bytes than its register has (R107). -/
  | payloadMissing
deriving DecidableEq, Repr

/-! ## Frame bytes -/

/-- RFRAME(addr) (R101). -/
def rframe (p : Params) (addr : Byte) : Byte := ((addr &&& 0xF) <<< 1) ||| pStart p.start ||| pMode p ||| p.chip.read

/-- WFRAME(addr) (R103). -/
def wframe (p : Params) (addr : Byte) : Byte := ((addr &&& 0xF) <<< 1) ||| pStart p.start ||| pMode p

/-- CFRAME(opcode) (R104). -/
def cframe (p : Params) (opcode : Byte) : Byte := (opcode &&& 0x3F) ||| pStart p.start

/-- What a device or a bus monitor reads in a frame byte (R112). -/
inductive FrameView where
  /-- Not a frame the Block sends: START is missing. -/
  | notAFrame
  /-- A register-access frame with bit 5 set, which never occurs in Block output (R113). -/
  | reservedBit5
  /-- A register read of `addr`. -/
  | registerRead (addr : Byte)
  /-- A register write of `addr`. -/
  | registerWrite (addr : Byte)
  /-- A command with this 6-bit opcode. -/
  | command (opcode : Byte)
deriving DecidableEq, Repr

/-- Decoding a frame byte (R112). -/
def viewFrame (p : Params) (f : Byte) : FrameView :=
  if f &&& pStart p.start = 0 then .notAFrame
  else if f &&& pMode p = 0 then .command (f &&& 0x3F)
  else if f &&& 0x20 ≠ 0 then .reservedBit5
  else if f &&& p.chip.read = 0 then .registerWrite ((f >>> 1) &&& 0xF)
  else .registerRead ((f >>> 1) &&& 0xF)

/-- The fields of a command opcode (R106, R112). -/
structure OpcodeView where
  cal1 : Bool
  cal0 : Bool
  impd : Bool
  rate : Byte
deriving DecidableEq, Repr

/-- Reading the fields of a command opcode (R106, R112). -/
def viewOpcode (p : Params) (opcode : Byte) : OpcodeView where
  cal1 := opcode &&& p.chip.cal1 != 0
  cal0 := opcode &&& p.chip.cal0 != 0
  impd := opcode &&& p.chip.impd != 0
  rate := opcode &&& p.chip.rateField

/-- {b2, b1, b0} (R73). -/
def join24 (b2 b1 b0 : Byte) : Word24 := b2 ++ b1 ++ b0

/-- v[23:16], v[15:8], v[7:0], the order in which a 24-bit value is sent (R73, R107). -/
def split24 (v : Word24) : List Byte :=
  [BitVec.extractLsb' 16 8 v, BitVec.extractLsb' 8 8 v, BitVec.extractLsb' 0 8 v]

/-- The read frame of a named register (R109). -/
def decodeRead (p : Params) (addr : Byte) : Except DecodeError Instr :=
  match p.regAt addr with
  | some .stat => .ok .rframeStat
  | some .ctrl1 => .ok .rframeCtrl1
  | some .ctrl2 => .ok .rframeCtrl2
  | some .ctrl3 => .ok .rframeCtrl3
  | some .data => .ok .rframeData
  | some .soc => .ok .rframeSoc
  | some .sgc => .ok .rframeSgc
  | some .scoc => .ok .rframeScoc
  | some .scgc => .ok .rframeScgc
  | none => .error .addressNeverSent

/-- One payload byte (R107). -/
def take8 (c : Byte → Instr) (bytes : List Byte) : Except DecodeError (Instr × List Byte) :=
  match bytes with
  | v :: rest => .ok (c v, rest)
  | [] => .error .payloadMissing

/-- Three payload bytes, most significant first (R107). -/
def take24 (c : Word24 → Instr) (bytes : List Byte) : Except DecodeError (Instr × List Byte) :=
  match bytes with
  | b2 :: b1 :: b0 :: rest => .ok (c (join24 b2 b1 b0), rest)
  | _ => .error .payloadMissing

/-- The write frame of a register the Block writes (R110), with its payload. -/
def decodeWrite (p : Params) (addr : Byte) (payload : List Byte) : Except DecodeError (Instr × List Byte) :=
  match p.regAt addr with
  | some .ctrl1 => take8 .wframeCtrl1 payload
  | some .ctrl2 => take8 .wframeCtrl2 payload
  | some .ctrl3 => take8 .wframeCtrl3 payload
  | some .soc => take24 .wframeSoc payload
  | some .sgc => take24 .wframeSgc payload
  | some .scoc => take24 .wframeScoc payload
  | some .scgc => take24 .wframeScgc payload
  | some .stat | some .data | none => .error .addressNeverSent

/-- The command frames the Block sends under the default rate mask (R111, R114). -/
def decodeCommand (p : Params) (opcode : Byte) : Except DecodeError Instr :=
  if opcode &&& p.chip.rateField = opcode then .ok (.cmdRate opcode.toNat)
  else if opcode = p.chip.pdOpcode then .ok .cmdPowerDown
  else if opcode = p.chip.cal0 then .ok .cmdSelfCal
  else if opcode = p.chip.cal1 then .ok .cmdSysOffCal
  else if opcode = p.chip.cal0 ||| p.chip.cal1 then .ok .cmdSysGainCal
  else .error .commandNeverSent

/-- The instruction at the head of a sequence of MOSI bytes, and the bytes after it. -/
def decodeMosi (p : Params) (bytes : List Byte) : Except DecodeError (Instr × List Byte) :=
  match bytes with
  | [] => .error .noFrameByte
  | f :: rest =>
    match viewFrame p f with
    | .notAFrame => .error .startMissing
    | .reservedBit5 => .error .bit5Set
    | .registerRead addr => (decodeRead p addr).map (fun i => (i, rest))
    | .registerWrite addr => decodeWrite p addr rest
    | .command opcode => (decodeCommand p opcode).map (fun i => (i, rest))

/-! ## Request words -/

/-- Bits 47:46 (R115). -/
def reqTop (w : ReqWord) : BitVec 2 := BitVec.extractLsb' 46 2 w

/-- `op`, bits 45:40 (R115). -/
def reqOp (w : ReqWord) : BitVec 6 := BitVec.extractLsb' 40 6 w

/-- `a`, bits 39:32 (R115). -/
def reqA (w : ReqWord) : Byte := BitVec.extractLsb' 32 8 w

/-- `b`, bit 24 (R115). -/
def reqB (w : ReqWord) : Bool := w.getLsbD 24

/-- `data`, bits 23:0 (R115). -/
def reqData (w : ReqWord) : Word24 := BitVec.extractLsb' 0 24 w

/-- Decoding a request word (R115 to R119). -/
def decodeRequest (w : ReqWord) : Except DecodeError Instr :=
  if reqTop w ≠ 0 then .error .topBitsSet
  else
    match (reqOp w).toNat with
    | 0x00 => .ok .beginOp
    | 0x01 => .ok .endOp
    | 0x02 => .ok .readOp
    | 0x03 => .ok .selfCal
    | 0x04 => .ok .sysOffsetCal
    | 0x05 => .ok .sysGainCal
    | 0x06 => .ok (.setRate (reqA w).toNat)
    | 0x08 => .ok .getReady
    | 0x09 => .ok .getMeasStat
    | 0x0A => .ok .getUnderRange
    | 0x0B => .ok .getOverRange
    | 0x0C => .ok .getRate
    | 0x0D => .ok .getSysGainOverRange
    | 0x10 => .ok (.setLineFreq (reqB w))
    | 0x11 => .ok .getLineFreq
    | 0x12 => .ok (.setInputRange (reqB w))
    | 0x13 => .ok .getInputRange
    | 0x14 => .ok (.setClockSource (reqB w))
    | 0x15 => .ok .getClockSource
    | 0x16 => .ok (.setRefBuf (reqB w))
    | 0x17 => .ok .getRefBuf
    | 0x18 => .ok (.setSigBuf (reqB w))
    | 0x19 => .ok .getSigBuf
    | 0x1A => .ok (.setFormat (reqB w))
    | 0x1B => .ok .getFormat
    | 0x1C => .ok (.setConvMode (reqB w))
    | 0x1D => .ok .getConvMode
    | 0x20 => .ok (.setGpioDir (reqA w).toNat (reqB w))
    | 0x21 => .ok (.getGpioDir (reqA w).toNat)
    | 0x22 => .ok (.setGpioValue (reqA w).toNat (reqB w))
    | 0x23 => .ok (.getGpioValue (reqA w).toNat)
    | 0x28 => .ok (.setGain (reqA w).toNat)
    | 0x29 => .ok .getGain
    | 0x2A => .ok (.setNoSysGainCal (reqB w))
    | 0x2B => .ok .getNoSysGainCal
    | 0x2C => .ok (.setNoSysOffsetCal (reqB w))
    | 0x2D => .ok .getNoSysOffsetCal
    | 0x2E => .ok (.setNoSelfGainCal (reqB w))
    | 0x2F => .ok .getNoSelfGainCal
    | 0x30 => .ok (.setNoSelfOffsetCal (reqB w))
    | 0x31 => .ok .getNoSelfOffsetCal
    | 0x38 => .ok .getSOC
    | 0x39 => .ok (.setSOC (reqData w))
    | 0x3A => .ok .getSGC
    | 0x3B => .ok (.setSGC (reqData w))
    | 0x3C => .ok .getSCOC
    | 0x3D => .ok (.setSCOC (reqData w))
    | 0x3E => .ok .getSCGC
    | 0x3F => .ok (.setSCGC (reqData w))
    | _ => .error .unassignedOp

/-! ## Both encodings -/

/-- An encoded instruction: a request word at the request port, or the MOSI bytes of a transaction. -/
inductive Encoded where
  | request (w : ReqWord)
  | mosi (bytes : List Byte)
deriving DecidableEq, Repr

/-- Decoding, total on any word and any bytes. -/
def decode (p : Params) (c : Encoded) : Except DecodeError Instr :=
  match c with
  | .request w => decodeRequest w
  | .mosi bytes => (decodeMosi p bytes).map Prod.fst

/-- The request word with these fields, ignored bits 31:25 zero (R115). -/
def requestWord (op a : Nat) (b : Bool) (data : Word24) : ReqWord :=
  (0 : BitVec 2) ++ BitVec.ofNat 6 op ++ BitVec.ofNat 8 a ++ (0 : BitVec 7) ++ BitVec.ofBool b ++ data

/-- The encoding of an instruction (R101 to R111, R115 to R117). -/
def encode (p : Params) (i : Instr) : Encoded :=
  match i with
  | .beginOp => .request (requestWord 0x00 0 false 0)
  | .endOp => .request (requestWord 0x01 0 false 0)
  | .readOp => .request (requestWord 0x02 0 false 0)
  | .selfCal => .request (requestWord 0x03 0 false 0)
  | .sysOffsetCal => .request (requestWord 0x04 0 false 0)
  | .sysGainCal => .request (requestWord 0x05 0 false 0)
  | .setRate a => .request (requestWord 0x06 a false 0)
  | .getReady => .request (requestWord 0x08 0 false 0)
  | .getMeasStat => .request (requestWord 0x09 0 false 0)
  | .getUnderRange => .request (requestWord 0x0A 0 false 0)
  | .getOverRange => .request (requestWord 0x0B 0 false 0)
  | .getRate => .request (requestWord 0x0C 0 false 0)
  | .getSysGainOverRange => .request (requestWord 0x0D 0 false 0)
  | .setLineFreq b => .request (requestWord 0x10 0 b 0)
  | .getLineFreq => .request (requestWord 0x11 0 false 0)
  | .setInputRange b => .request (requestWord 0x12 0 b 0)
  | .getInputRange => .request (requestWord 0x13 0 false 0)
  | .setClockSource b => .request (requestWord 0x14 0 b 0)
  | .getClockSource => .request (requestWord 0x15 0 false 0)
  | .setRefBuf b => .request (requestWord 0x16 0 b 0)
  | .getRefBuf => .request (requestWord 0x17 0 false 0)
  | .setSigBuf b => .request (requestWord 0x18 0 b 0)
  | .getSigBuf => .request (requestWord 0x19 0 false 0)
  | .setFormat b => .request (requestWord 0x1A 0 b 0)
  | .getFormat => .request (requestWord 0x1B 0 false 0)
  | .setConvMode b => .request (requestWord 0x1C 0 b 0)
  | .getConvMode => .request (requestWord 0x1D 0 false 0)
  | .setGpioDir pin b => .request (requestWord 0x20 pin b 0)
  | .getGpioDir pin => .request (requestWord 0x21 pin false 0)
  | .setGpioValue pin b => .request (requestWord 0x22 pin b 0)
  | .getGpioValue pin => .request (requestWord 0x23 pin false 0)
  | .setGain g => .request (requestWord 0x28 g false 0)
  | .getGain => .request (requestWord 0x29 0 false 0)
  | .setNoSysGainCal b => .request (requestWord 0x2A 0 b 0)
  | .getNoSysGainCal => .request (requestWord 0x2B 0 false 0)
  | .setNoSysOffsetCal b => .request (requestWord 0x2C 0 b 0)
  | .getNoSysOffsetCal => .request (requestWord 0x2D 0 false 0)
  | .setNoSelfGainCal b => .request (requestWord 0x2E 0 b 0)
  | .getNoSelfGainCal => .request (requestWord 0x2F 0 false 0)
  | .setNoSelfOffsetCal b => .request (requestWord 0x30 0 b 0)
  | .getNoSelfOffsetCal => .request (requestWord 0x31 0 false 0)
  | .getSOC => .request (requestWord 0x38 0 false 0)
  | .setSOC d => .request (requestWord 0x39 0 false d)
  | .getSGC => .request (requestWord 0x3A 0 false 0)
  | .setSGC d => .request (requestWord 0x3B 0 false d)
  | .getSCOC => .request (requestWord 0x3C 0 false 0)
  | .setSCOC d => .request (requestWord 0x3D 0 false d)
  | .getSCGC => .request (requestWord 0x3E 0 false 0)
  | .setSCGC d => .request (requestWord 0x3F 0 false d)
  | .rframeStat => .mosi [rframe p (p.addr .stat)]
  | .rframeCtrl1 => .mosi [rframe p (p.addr .ctrl1)]
  | .rframeCtrl2 => .mosi [rframe p (p.addr .ctrl2)]
  | .rframeCtrl3 => .mosi [rframe p (p.addr .ctrl3)]
  | .rframeData => .mosi [rframe p (p.addr .data)]
  | .rframeSoc => .mosi [rframe p (p.addr .soc)]
  | .rframeSgc => .mosi [rframe p (p.addr .sgc)]
  | .rframeScoc => .mosi [rframe p (p.addr .scoc)]
  | .rframeScgc => .mosi [rframe p (p.addr .scgc)]
  | .wframeCtrl1 v => .mosi [wframe p (p.addr .ctrl1), v]
  | .wframeCtrl2 v => .mosi [wframe p (p.addr .ctrl2), v]
  | .wframeCtrl3 v => .mosi [wframe p (p.addr .ctrl3), v]
  | .wframeSoc v => .mosi (wframe p (p.addr .soc) :: split24 v)
  | .wframeSgc v => .mosi (wframe p (p.addr .sgc) :: split24 v)
  | .wframeScoc v => .mosi (wframe p (p.addr .scoc) :: split24 v)
  | .wframeScgc v => .mosi (wframe p (p.addr .scgc) :: split24 v)
  | .cmdRate code => .mosi [cframe p (BitVec.ofNat 8 code)]
  | .cmdPowerDown => .mosi [cframe p p.chip.pdOpcode]
  | .cmdSelfCal => .mosi [cframe p p.chip.cal0]
  | .cmdSysOffCal => .mosi [cframe p p.chip.cal1]
  | .cmdSysGainCal => .mosi [cframe p (p.chip.cal0 ||| p.chip.cal1)]

/-! ## The text form of a request (R120) -/

/-- A truth value in the text form. -/
def boolText (b : Bool) : String := if b then "true" else "false"

/-- The text form of a request: its mnemonic and its operands in the order of R116, numbers in decimal. A frame is no
request and has none. -/
def requestText (i : Instr) : Option String :=
  match i with
  | .beginOp => some "begin"
  | .endOp => some "end"
  | .readOp => some "read"
  | .selfCal => some "selfCal"
  | .sysOffsetCal => some "sysOffsetCal"
  | .sysGainCal => some "sysGainCal"
  | .setRate a => some ("setRate " ++ Nat.repr a)
  | .getReady => some "getReady"
  | .getMeasStat => some "getMeasStat"
  | .getUnderRange => some "getUnderRange"
  | .getOverRange => some "getOverRange"
  | .getRate => some "getRate"
  | .getSysGainOverRange => some "getSysGainOverRange"
  | .setLineFreq b => some ("setLineFreq " ++ boolText b)
  | .getLineFreq => some "getLineFreq"
  | .setInputRange b => some ("setInputRange " ++ boolText b)
  | .getInputRange => some "getInputRange"
  | .setClockSource b => some ("setClockSource " ++ boolText b)
  | .getClockSource => some "getClockSource"
  | .setRefBuf b => some ("setRefBuf " ++ boolText b)
  | .getRefBuf => some "getRefBuf"
  | .setSigBuf b => some ("setSigBuf " ++ boolText b)
  | .getSigBuf => some "getSigBuf"
  | .setFormat b => some ("setFormat " ++ boolText b)
  | .getFormat => some "getFormat"
  | .setConvMode b => some ("setConvMode " ++ boolText b)
  | .getConvMode => some "getConvMode"
  | .setGpioDir pin b => some ("setGpioDir " ++ Nat.repr pin ++ ", " ++ boolText b)
  | .getGpioDir pin => some ("getGpioDir " ++ Nat.repr pin)
  | .setGpioValue pin b => some ("setGpioValue " ++ Nat.repr pin ++ ", " ++ boolText b)
  | .getGpioValue pin => some ("getGpioValue " ++ Nat.repr pin)
  | .setGain g => some ("setGain " ++ Nat.repr g)
  | .getGain => some "getGain"
  | .setNoSysGainCal b => some ("setNoSysGainCal " ++ boolText b)
  | .getNoSysGainCal => some "getNoSysGainCal"
  | .setNoSysOffsetCal b => some ("setNoSysOffsetCal " ++ boolText b)
  | .getNoSysOffsetCal => some "getNoSysOffsetCal"
  | .setNoSelfGainCal b => some ("setNoSelfGainCal " ++ boolText b)
  | .getNoSelfGainCal => some "getNoSelfGainCal"
  | .setNoSelfOffsetCal b => some ("setNoSelfOffsetCal " ++ boolText b)
  | .getNoSelfOffsetCal => some "getNoSelfOffsetCal"
  | .getSOC => some "getSOC"
  | .setSOC d => some ("setSOC " ++ Nat.repr d.toNat)
  | .getSGC => some "getSGC"
  | .setSGC d => some ("setSGC " ++ Nat.repr d.toNat)
  | .getSCOC => some "getSCOC"
  | .setSCOC d => some ("setSCOC " ++ Nat.repr d.toNat)
  | .getSCGC => some "getSCGC"
  | .setSCGC d => some ("setSCGC " ++ Nat.repr d.toNat)
  | .rframeStat | .rframeCtrl1 | .rframeCtrl2 | .rframeCtrl3 | .rframeData | .rframeSoc | .rframeSgc | .rframeScoc | .rframeScgc
  | .wframeCtrl1 _ | .wframeCtrl2 _ | .wframeCtrl3 _ | .wframeSoc _ | .wframeSgc _ | .wframeScoc _ | .wframeScgc _
  | .cmdRate _ | .cmdPowerDown | .cmdSelfCal | .cmdSysOffCal | .cmdSysGainCal => none

/-! ## The opcode table's words -/

/-- The four MOSI bytes of a table word of `nbits` bits: the first byte is bits 7:0, and the bits above `nbits` are
zero. Four bytes are the longest transaction with operands. -/
def tableBytes (nbits w : Nat) : List Byte :=
  let v : BitVec 32 := BitVec.ofNat 32 (w % 2 ^ nbits)
  [BitVec.extractLsb' 0 8 v, BitVec.extractLsb' 8 8 v, BitVec.extractLsb' 16 8 v, BitVec.extractLsb' 24 8 v]

/-- How a table word is presented: a row of more than 32 bits is a request word, a shorter one the MOSI bytes of a
transaction. -/
def tableEncoded (nbits w : Nat) : Encoded :=
  if nbits ≤ 32 then .mosi (tableBytes nbits w) else .request (BitVec.ofNat 48 (w % 2 ^ nbits))

/-- What the decoder reads from a word of spec/opcode_table.json. -/
def decodeTableWord (nbits w : Nat) : Option Instr := (decode Params.default (tableEncoded nbits w)).toOption

end Sys2Proof
end

