-- ==== Sys2Proof/Machine/State.lean ====
section
/-! DEFINITION. The state of the machine as plain data: the Block's architectural state (10_state.md R30 to R38), the
observation (20_memory.md R83), the inputs of the Block (Host, timer, Device), the parameters, and four fields of the
model's own (`rx`, `waiting`, `framer`, `draws`). The reasons a step can stop, and the state after reset (R340). -/

namespace Sys2Proof.Machine

/-- The sequencer state (R31). -/
inductive Phase where
  | uninitialized
  | configuring
  | calibrated
  | converting
deriving DecidableEq, Repr

/-- The arguments of `CfgBus` (R12, R32), in the order of the source's `configureBus`. -/
structure BusCfg where
  order : BitOrder
  div   : Nat
  mode  : Fin 4
deriving DecidableEq, Repr

/-- A bus event of the trace `T` (R12). -/
inductive BusEvent where
  | cfgBus (c : BusCfg)
  | teardown
  | cs (asserted : Bool)
  | xfer (sent received : Byte)
  | ready (level : Bool)
  | delayUs (n : Nat)
  | delayMs (n : Nat)
deriving DecidableEq, Repr

/-- What the Host does in a step (R37, R89, R308; notes/assumptions/4.md). -/
inductive HostMove where
  /-- req_valid = 0 in this step. -/
  | idle
  /-- req_valid = 1 and req_word = w in this step, whatever `busy` is. -/
  | now (w : ReqWord)
  /-- The dutiful Host of R89: it waits for `busy = 0` and presents `w` then. -/
  | whenFree (w : ReqWord)
  /-- A Block reset (R308, R340). -/
  | reset
deriving DecidableEq, Repr

/-- What the Host's timer reports when a delay asks it (R40, R89, R309; notes/assumptions/8.md). -/
inductive TimerReport where
  /-- At least the requested time has elapsed. -/
  | done
  /-- It has not elapsed yet: the Block stalls. -/
  | notYet
  /-- The timer never completes, a breach of the Host's duty (U13). -/
  | never
deriving DecidableEq, Repr

/-- Where RefDev stands in a transaction (R88). -/
inductive RefLink where
  /-- The next byte is a frame byte. -/
  | frame
  /-- A read: these bytes are still to be sent. -/
  | reading (bytes : List Byte)
  /-- A write of this register: these payload bytes have come in, oldest first. -/
  | writing (reg : Reg) (bytes : List Byte)
  /-- Nothing more is expected in this transaction. -/
  | rest
deriving DecidableEq, Repr

/-- The reference device of R88: the nine registers at their widths (R42), and its place in a transaction. -/
structure RefDev where
  stat  : Byte
  ctrl1 : Byte
  ctrl2 : Byte
  ctrl3 : Byte
  data  : Word24
  soc   : Word24
  sgc   : Word24
  scoc  : Word24
  scgc  : Word24
  link  : RefLink
deriving DecidableEq, Repr

/-- The Device as the Block sees it (R84): an oracle whose next answers are these bytes and, when they are used up,
free values; or the reference device. -/
inductive Device where
  | oracle (answers : List Byte)
  | ref (r : RefDev)
deriving DecidableEq, Repr

/-- The state of the machine. -/
structure State where
  /-- R31. -/
  phase        : Phase
  /-- R32. -/
  busCfg       : Option BusCfg
  /-- R33: `true` when the chip-select line is asserted. -/
  cs           : Bool
  /-- R34: `none` is the spec's `unwritten`. -/
  rateMirror   : Option (BitVec 3)
  /-- R35: `none` is the spec's `unwritten`. -/
  scycleMirror : Option Bool
  /-- R36, and the output port of R37. -/
  busy         : Bool
  /-- R36. -/
  curReq       : Option ReqWord
  /-- R36. -/
  opstep       : Nat
  /-- R36. -/
  pollCount    : Nat
  /-- R38, and the output port fault_code of R37. -/
  fault        : BitVec 8
  /-- Output port of R37. -/
  respValid    : Bool
  /-- Output port of R37. -/
  respValue    : Word32
  /-- The trace `T` of R83, oldest first. -/
  trace        : List BusEvent
  /-- The response list `Rsp` of R83, oldest first. -/
  rsp          : List (ReqWord × Word32)
  /-- What the Host does in the coming steps; when the list is used up, nothing (notes/assumptions/4.md). -/
  hostIn       : List HostMove
  /-- What the Host timer reports next; when the list is used up it does its duty (notes/assumptions/8.md). -/
  timerIn      : List TimerReport
  /-- The levels of the coming ready samples; when the list is used up, free values (notes/assumptions/6.md). -/
  readyIn      : List Bool
  /-- The Device (R84, R88). -/
  dev          : Device
  /-- The parameters of R7, constant in a run (notes/assumptions/9.md). -/
  cfg          : Params
  /-- MODEL's own: the bytes received and kept by the operation in flight, oldest first (notes/assumptions/15.md). -/
  rx           : List Byte
  /-- MODEL's own: a delay is under way and the timer has not reported it done (notes/assumptions/8.md). -/
  waiting      : Bool
  /-- MODEL's own: the MOSI bytes of a transaction placed directly on the framer (notes/assumptions/11.md). -/
  framer       : Option (List Byte)
  /-- MODEL's own: how many free values have been drawn (notes/assumptions/6.md). -/
  draws        : Nat
deriving DecidableEq, Repr

/-- Why a step ends with a fault. None of these is a fault of the Block: those are codes in `fault` (R301), and
entering them is a next state. -/
inductive Fault where
  /-- Raised by `step` when `fault ≠ 0` and the Host does not reset the Block: the Block halts and takes no further
  step (R305, R308). Safe. -/
  | halted
  /-- Raised by a delay when the timer never completes: the model gives it no step (R309, U13). Safe. -/
  | timerNeverCompletes
  /-- Raised by a meaning when `opstep` is past the end of its script, which no run reaches. Safe. -/
  | offScript
  /-- Raised by `step` when the Block is busy and nothing that decodes is in flight, which no run reaches. Safe. -/
  | nothingInFlight
deriving DecidableEq, Repr

/-- Why a step is refused. -/
inductive Refusal where
  /-- Raised by `exec` for an instruction that has no meaning yet. Safe. -/
  | notModelled (mnemonic : String)
deriving DecidableEq, Repr

/-- What a step answers. -/
abbrev Result := Host.Outcome State Fault Refusal

/-- The machine right after reset (R340), before the Host has done anything. -/
def State.reset : State where
  phase        := .uninitialized
  busCfg       := none
  cs           := false
  rateMirror   := none
  scycleMirror := none
  busy         := false
  curReq       := none
  opstep       := 0
  pollCount    := 0
  fault        := 0
  respValid    := false
  respValue    := 0
  trace        := []
  rsp          := []
  hostIn       := []
  timerIn      := []
  readyIn      := []
  dev          := .oracle []
  cfg          := Params.default
  rx           := []
  waiting      := false
  framer       := none
  draws        := 0

end Sys2Proof.Machine
end

