-- ==== Sys2Proof/Machine/Ops.lean ====
section
/-! DEFINITION. The shared operations of the machine: events and ports, the Device's answers (20_memory.md R84, R88),
fault entry and reset (60_exceptions.md R305, R308; 70_reset_and_hazards.md R340), acceptance and completion of a
request (41_sequencer.md R170, R171), and running a script one primitive at a time (00_scope.md R12, R13). -/

namespace Sys2Proof.Machine

/-! ## The trace -/

/-- Appends an event to the trace (R12). -/
def emit (e : BusEvent) (s : State) : State := { s with trace := s.trace ++ [e] }

/-- One primitive step has been taken (R36). -/
def advance (s : State) : State := { s with opstep := s.opstep + 1 }

/-! ## The reference device (R88) -/

/-- What RefDev holds in a register, as the bytes it sends, most significant first. -/
def RefDev.held (d : RefDev) (r : Reg) : List Byte :=
  match r with
  | .stat => [d.stat]
  | .ctrl1 => [d.ctrl1]
  | .ctrl2 => [d.ctrl2]
  | .ctrl3 => [d.ctrl3]
  | .data => split24 d.data
  | .soc => split24 d.soc
  | .sgc => split24 d.sgc
  | .scoc => split24 d.scoc
  | .scgc => split24 d.scgc

/-- Stores an 8-bit payload. -/
def RefDev.store8 (d : RefDev) (r : Reg) (v : Byte) : RefDev :=
  match r with
  | .stat => { d with stat := v }
  | .ctrl1 => { d with ctrl1 := v }
  | .ctrl2 => { d with ctrl2 := v }
  | .ctrl3 => { d with ctrl3 := v }
  | .data | .soc | .sgc | .scoc | .scgc => d

/-- Stores a 24-bit payload. -/
def RefDev.store24 (d : RefDev) (r : Reg) (v : Word24) : RefDev :=
  match r with
  | .data => { d with data := v }
  | .soc => { d with soc := v }
  | .sgc => { d with sgc := v }
  | .scoc => { d with scoc := v }
  | .scgc => { d with scgc := v }
  | .stat | .ctrl1 | .ctrl2 | .ctrl3 => d

/-- RefDev has received the payload bytes so far: it stores them when they are as many as the register has. -/
def RefDev.payload (d : RefDev) (r : Reg) (bytes : List Byte) : RefDev :=
  match bytes with
  | [v] => if r.bytes = 1 then { (d.store8 r v) with link := .rest } else { d with link := .writing r bytes }
  | [b2, b1, b0] => { (d.store24 r (join24 b2 b1 b0)) with link := .rest }
  | _ => { d with link := .writing r bytes }

/-- RefDev answers one exchanged byte (R88): 0x00 during frame and payload bytes, the held value during a read. -/
def RefDev.exchange (p : Params) (d : RefDev) (o : Byte) : Byte × RefDev :=
  match d.link with
  | .frame =>
    match viewFrame p o with
    | .registerRead addr => (0x00, { d with link := .reading (((p.regAt addr).map d.held).getD []) })
    | .registerWrite addr => (0x00, { d with link := ((p.regAt addr).map (RefLink.writing · [])).getD .rest })
    | .command _ | .notAFrame | .reservedBit5 => (0x00, { d with link := .rest })
  | .reading (v :: rest) => (v, { d with link := .reading rest })
  | .reading [] => (0x00, { d with link := .rest })
  | .writing r bytes => (0x00, d.payload r (bytes ++ [o]))
  | .rest => (0x00, d)

/-- A change of chip select begins or ends RefDev's transaction (R76, R345). -/
def Device.select (d : Device) : Device :=
  match d with
  | .oracle answers => .oracle answers
  | .ref r => .ref { r with link := .frame }

/-! ## Primitives (R12) -/

/-- `CfgBus(P_BIT_ORDER, P_CLK_DIV, P_SPI_MODE)`, and `bus_cfg` (R32, R161). -/
def cfgBus (s : State) : State :=
  let c : BusCfg := ⟨pBitOrder, s.cfg.clkDiv, s.cfg.spiMode⟩
  { (emit (.cfgBus c) s) with busCfg := some c }

/-- `Teardown()`, and `bus_cfg` (R32, R162). -/
def teardown (s : State) : State := { (emit .teardown s) with busCfg := none }

/-- `CS(a)` (R33). -/
def chipSelect (a : Bool) (s : State) : State := { (emit (.cs a) s) with cs := a, dev := s.dev.select }

/-- The level of the chip-select pin (R39). -/
def csPin (s : State) : Bool := if s.cs then s.cfg.csActive else !s.cfg.csActive

/-- The Device answers byte `o`: the received byte and the state after it (R84). -/
def deviceAnswer (o : Byte) (s : State) : Byte × State :=
  match s.dev with
  | .oracle (i :: rest) => (i, { s with dev := .oracle rest })
  | .oracle [] => (Config.freeByte s.draws, { s with draws := s.draws + 1 })
  | .ref r => ((RefDev.exchange s.cfg r o).1, { s with dev := .ref (RefDev.exchange s.cfg r o).2 })

/-- `Xfer(o)`, the received byte discarded (R140 to R144). -/
def xferDiscard (o : Byte) (s : State) : State :=
  emit (.xfer o (deviceAnswer o s).1) (deviceAnswer o s).2

/-- `Xfer(P_DUMMY)`, the received byte kept (R108, R140, R141). -/
def xferKeep (s : State) : State :=
  let r := deviceAnswer s.cfg.dummy s
  { (emit (.xfer s.cfg.dummy r.1) r.2) with rx := s.rx ++ [r.1] }

/-- `SampleReady()`: the level, and the state after the event (R84). -/
def sampleReady (s : State) : Bool × State :=
  match s.readyIn with
  | l :: rest => (l, emit (.ready l) { s with readyIn := rest })
  | [] => (Config.freeLevel s.draws, emit (.ready (Config.freeLevel s.draws)) { s with draws := s.draws + 1 })

/-! ## Faults and reset -/

/-- The faults of the Block (R301), with the request word that R301 records. -/
inductive BlockFault where
  | notInitialized (w : ReqWord)
  | requestWhileBusy (w : ReqWord)
  | illegalRequest (w : ReqWord)
  | readTimeout
deriving DecidableEq, Repr

/-- The code of a fault (R301). -/
def BlockFault.code : BlockFault → BitVec 8
  | .notInitialized _ => 1
  | .requestWhileBusy _ => 2
  | .illegalRequest _ => 3
  | .readTimeout => 4

/-- What `cur_req` holds after a fault: the offending word for codes 1 to 3 (R305). -/
def BlockFault.recorded (f : BlockFault) (curReq : Option ReqWord) : Option ReqWord :=
  match f with
  | .notInitialized w | .requestWhileBusy w | .illegalRequest w => some w
  | .readTimeout => curReq

/-- Chip select is driven deasserted if it was asserted (R303, R305). -/
def releaseCs (s : State) : State := if s.cs then chipSelect false s else s

/-- Fault entry, `raise F(info)` (R305). The Block halts: `step` has no next state from here but a reset. -/
def raise (f : BlockFault) (s : State) : State :=
  { (releaseCs s) with
    fault     := f.code
    busy      := false
    curReq    := f.recorded s.curReq
    respValid := false
    rx        := []
    waiting   := false
    framer    := none }

/-- A Block reset (R340): the only way out of a fault (R308). It emits no event and does not touch the device (R341);
the run's observation starts anew (notes/assumptions/16.md). -/
def blockReset (s : State) : State :=
  { State.reset with
    hostIn  := s.hostIn
    timerIn := s.timerIn
    readyIn := s.readyIn
    dev     := s.dev.select
    cfg     := s.cfg
    draws   := s.draws }

/-! ## Acceptance and completion -/

/-- Accepting a request (R170); `begin` enters `Configuring` (R160). -/
def accept (w : ReqWord) (i : Instr) (s : State) : State :=
  { s with
    phase     := if i = .beginOp then .configuring else s.phase
    busy      := true
    curReq    := some w
    opstep    := 0
    pollCount := 0
    rx        := []
    waiting   := false
    framer    := none }

/-- The request port in a step with req_valid = 1 (R170), with the priority of R307. -/
def present (w : ReqWord) (s : State) : State :=
  if s.busy then raise (.requestWhileBusy w) s
  else
    match decodeRequest w with
    | .error _ => raise (.illegalRequest w) s
    | .ok i =>
      if s.phase = .uninitialized ∧ i ≠ .beginOp then raise (.notInitialized w) s
      else accept w i s

/-- The pairs that `respond(v)` adds to `Rsp` (R83): one for a request, none for a transaction placed on the framer. -/
def responsePairs (curReq : Option ReqWord) (v : Word32) : List (ReqWord × Word32) :=
  match curReq with
  | some w => [(w, v)]
  | none => []

/-- Completion, `respond(v)` (R171). -/
def respond (v : Word32) (s : State) : State :=
  { s with
    respValid := true
    respValue := v
    rsp       := s.rsp ++ responsePairs s.curReq v
    busy      := false
    curReq    := none
    opstep    := 0
    rx        := []
    waiting   := false
    framer    := none }

/-! ## Scripts -/

/-- An assignment `x[name] <- v` of a script (R11) to a piece of state that no primitive writes. -/
inductive Assign where
  | phase (p : Phase)
  | rateMirror (r : BitVec 3)
  | scycleMirror (b : Bool)
deriving DecidableEq, Repr

/-- One assignment (R11). -/
def assign (s : State) (a : Assign) : State :=
  match a with
  | .phase p => { s with phase := p }
  | .rateMirror r => { s with rateMirror := some r }
  | .scycleMirror b => { s with scycleMirror := some b }

/-- Assignments in order. -/
def assignAll (as : List Assign) (s : State) : State := as.foldl assign s

/-- A primitive of a script (R12, R13). -/
inductive Prim where
  | cfgBus
  | teardown
  | cs (a : Bool)
  /-- `_ <- Xfer(o)`. -/
  | send (o : Byte)
  /-- `v <- Xfer(P_DUMMY)`. -/
  | recv
  | sample
  | delayUs (n : Nat)
  | delayMs (n : Nat)
deriving DecidableEq, Repr

/-- A primitive with the assignments that stand before and after it (notes/assumptions/2.md). -/
structure Micro where
  before : List Assign
  prim   : Prim
  after  : List Assign
deriving DecidableEq, Repr

/-- A primitive with no assignment beside it. -/
def Prim.alone (p : Prim) : Micro := ⟨[], p, []⟩

/-- The script with assignments before its first primitive. -/
def startWith (as : List Assign) (script : List Micro) : List Micro :=
  match script with
  | [] => []
  | m :: rest => { m with before := as ++ m.before } :: rest

/-- The script with assignments after its last primitive. -/
def endWith (as : List Assign) (script : List Micro) : List Micro :=
  match script with
  | [] => []
  | [m] => [{ m with after := m.after ++ as }]
  | m :: rest => m :: endWith as rest

/-- A primitive has been completed: the assignments after it, and `opstep` (R36). -/
def complete (as : List Assign) (s : State) : State := assignAll as (advance s)

/-- What the Host timer reports in this step; with no report given it does its duty (R89). -/
def timerReport (s : State) : TimerReport := s.timerIn.head?.getD .done

/-- A delay requested from the Host timer (R12, R40): the event is appended when it is requested, and the Block stalls
in that step until the timer reports it done. -/
def delay (e : BusEvent) (as : List Assign) (s : State) : Result :=
  let s1 : State := { (if s.waiting then s else emit e s) with timerIn := s.timerIn.tail }
  match timerReport s with
  | .done => .next (complete as { s1 with waiting := false })
  | .notYet => .next { s1 with waiting := true }
  | .never => .fault .timerNeverCompletes

/-- The poll count has reached P_READ_TIMEOUT (R166, R306). -/
def timedOut (p : Params) (pollCount : Nat) : Bool :=
  match p.readTimeout with
  | none => false
  | some n => n ≤ pollCount

/-- One turn of `read`'s loop up to its delay (R166): the sample, the count and the optional timeout. -/
def poll (as : List Assign) (s : State) : State :=
  let r := sampleReady s
  if r.1 = s.cfg.readyAsserted then complete as r.2
  else
    let s2 : State := { r.2 with pollCount := s.pollCount + 1 }
    if timedOut s.cfg s2.pollCount then raise .readTimeout s2 else complete as s2

/-- One primitive step (R13). -/
def microStep (m : Micro) (s : State) : Result :=
  let s1 := assignAll m.before s
  match m.prim with
  | .cfgBus => .next (complete m.after (cfgBus s1))
  | .teardown => .next (complete m.after (teardown s1))
  | .cs a => .next (complete m.after (chipSelect a s1))
  | .send o => .next (complete m.after (xferDiscard o s1))
  | .recv => .next (complete m.after (xferKeep s1))
  | .sample => .next (poll m.after s1)
  | .delayUs n => delay (.delayUs n) m.after s1
  | .delayMs n => delay (.delayMs n) m.after s1

/-- The next step of an operation (R36, R171): the primitive at `opstep`, or, after the last one, the script's last
assignments and `respond(v)`. -/
def runScript (script : List Micro) (final : List Assign) (v : Word32) (s : State) : Result :=
  match script[s.opstep]? with
  | some m => microStep m s
  | none => if s.opstep = script.length then .next (respond v (assignAll final s)) else .fault .offScript

/-! ## Fetching -/

/-- The request the Host presents in this step, if any (R37, R89). -/
def requestNow (s : State) : Option ReqWord :=
  match s.hostIn with
  | .now w :: _ => some w
  | .whenFree w :: _ => if s.busy then none else some w
  | .idle :: _ | .reset :: _ | [] => none

/-- The step has taken the Host's move of this step, and resp_valid, which is high only for the step of `respond`
(R37), is low again. -/
def beginStep (s : State) : State :=
  { s with
    hostIn := match s.hostIn with
      | [] => []
      | .whenFree w :: rest => if s.busy then .whenFree w :: rest else rest
      | .now _ :: rest | .idle :: rest | .reset :: rest => rest
    respValid := false }

/-- The instruction in flight: the accepted request (R36), or a transaction placed directly on the framer. -/
def inFlight (s : State) : Option Instr :=
  match s.framer with
  | some bytes => (decode s.cfg (.mosi bytes)).toOption
  | none =>
    match s.curReq with
    | some w => (decodeRequest w).toOption
    | none => none

/-- The Host's move in this step is a reset. -/
def resetNow (s : State) : Bool :=
  match s.hostIn with
  | .reset :: _ => true
  | .now _ :: _ | .whenFree _ :: _ | .idle :: _ | [] => false

end Sys2Proof.Machine
end

