-- ==== Sys2Proof/Machine/Framer.lean ====
section
/-! DEFINITION. The Bus Framer's five primitives as scripts (40_framer.md R140 to R144), the read-modify-write helpers
over them (R146 to R148), and the common shapes of an operation built from them. A script reads the bytes received so
far from `rx` (notes/assumptions/15.md). -/

namespace Sys2Proof.Machine

/-- `readByte(addr)` (R140). -/
def readByte (p : Params) (addr : Byte) : List Micro :=
  [(Prim.cs true).alone, (Prim.send (rframe p addr)).alone, Prim.recv.alone, (Prim.cs false).alone]

/-- `readTriple(addr)` (R141). -/
def readTriple (p : Params) (addr : Byte) : List Micro :=
  [(Prim.cs true).alone, (Prim.send (rframe p addr)).alone, Prim.recv.alone, Prim.recv.alone, Prim.recv.alone,
   (Prim.cs false).alone]

/-- `writeByte(addr, data)` (R142). -/
def writeByte (p : Params) (addr data : Byte) : List Micro :=
  [(Prim.cs true).alone, (Prim.send (wframe p addr)).alone, (Prim.send data).alone, (Prim.cs false).alone]

/-- `writeTriple(addr, data)` (R143). -/
def writeTriple (p : Params) (addr : Byte) (data : Word24) : List Micro :=
  [(Prim.cs true).alone, (Prim.send (wframe p addr)).alone] ++ (split24 data).map (fun o => (Prim.send o).alone)
    ++ [(Prim.cs false).alone]

/-- `sendCommand(opcode)` (R144). -/
def sendCommand (p : Params) (opcode : Byte) : List Micro :=
  [(Prim.cs true).alone, (Prim.send (cframe p opcode)).alone, (Prim.cs false).alone]

/-- The byte a `readByte` has received: the first byte kept (R140, `v` of R148 and `old` of R146). -/
def byteRead (s : State) : Byte := s.rx.headD 0

/-- What a `readTriple` returns, `sext_32({b2, b1, b0})` (R141). -/
def tripleRead (s : State) : Word32 := sext32 (join24 (s.rx.getD 0 0) (s.rx.getD 1 0) (s.rx.getD 2 0))

/-- `setBit(addr, mask, value)` (R146); the field names the register. -/
def setBit (f : Field) (value : Bool) (s : State) : List Micro :=
  readByte s.cfg (s.cfg.addr f.reg) ++ writeByte s.cfg (s.cfg.addr f.reg) (withBit f value (byteRead s))

/-- `setField(addr, mask, shift, code)` (R147). -/
def setField (f : Field) (code : Nat) (s : State) : List Micro :=
  readByte s.cfg (s.cfg.addr f.reg) ++ writeByte s.cfg (s.cfg.addr f.reg) (withField f code (byteRead s))

/-- An operation that is one `setBit`, responding 0. -/
def runSetBit (f : Field) (value : Bool) (s : State) : Result := runScript (setBit f value s) [] 0 s

/-- An operation that is one `getField` (R148), responding the field zero-extended (R171). -/
def runGetField (f : Field) (s : State) : Result :=
  runScript (readByte s.cfg (s.cfg.addr f.reg)) [] (zext32 (fieldOf f (byteRead s))) s

/-- An operation that is one `readTriple`, responding its `int32` (R171). -/
def runGetTriple (r : Reg) (s : State) : Result := runScript (readTriple s.cfg (s.cfg.addr r)) [] (tripleRead s) s

/-- An operation that is one `writeTriple`, responding 0. -/
def runSetTriple (r : Reg) (d : Word24) (s : State) : Result :=
  runScript (writeTriple s.cfg (s.cfg.addr r) d) [] 0 s

end Sys2Proof.Machine
end

