-- ==== Sys2Proof/Machine/CalRegs.lean ====
section
/-! DEFINITION. The calibration register accessors (46_calibration_regs.md R280 to R287). -/

namespace Sys2Proof.Machine

/-- `getSOC` (R280). -/
def execGetSOC (s : State) : Result := runGetTriple .soc s

/-- `setSOC(d)` (R281). -/
def execSetSOC (d : Word24) (s : State) : Result := runSetTriple .soc d s

/-- `getSGC` (R282). -/
def execGetSGC (s : State) : Result := runGetTriple .sgc s

/-- `setSGC(d)` (R283). -/
def execSetSGC (d : Word24) (s : State) : Result := runSetTriple .sgc d s

/-- `getSCOC` (R284). -/
def execGetSCOC (s : State) : Result := runGetTriple .scoc s

/-- `setSCOC(d)` (R285). -/
def execSetSCOC (d : Word24) (s : State) : Result := runSetTriple .scoc d s

/-- `getSCGC` (R286). -/
def execGetSCGC (s : State) : Result := runGetTriple .scgc s

/-- `setSCGC(d)` (R287). -/
def execSetSCGC (d : Word24) (s : State) : Result := runSetTriple .scgc d s

end Sys2Proof.Machine
end

