-- ==== Sys2Proof/Machine/Ctrl1.lean ====
section
/-! DEFINITION. The CTRL1 field accessors (43_config_ctrl1.md R210 to R224). -/

namespace Sys2Proof.Machine

/-- `setLineFreq(b)` (R210). -/
def execSetLineFreq (b : Bool) (s : State) : Result := runSetBit s.cfg.chip.fields.linef b s

/-- `getLineFreq` (R211). -/
def execGetLineFreq (s : State) : Result := runGetField s.cfg.chip.fields.linef s

/-- `setInputRange(b)` (R212). -/
def execSetInputRange (b : Bool) (s : State) : Result := runSetBit s.cfg.chip.fields.ub b s

/-- `getInputRange` (R213). -/
def execGetInputRange (s : State) : Result := runGetField s.cfg.chip.fields.ub s

/-- `setClockSource(b)` (R214). -/
def execSetClockSource (b : Bool) (s : State) : Result := runSetBit s.cfg.chip.fields.extclk b s

/-- `getClockSource` (R215). -/
def execGetClockSource (s : State) : Result := runGetField s.cfg.chip.fields.extclk s

/-- `setRefBuf(b)` (R216). -/
def execSetRefBuf (b : Bool) (s : State) : Result := runSetBit s.cfg.chip.fields.refbuf b s

/-- `getRefBuf` (R217). -/
def execGetRefBuf (s : State) : Result := runGetField s.cfg.chip.fields.refbuf s

/-- `setSigBuf(b)` (R218). -/
def execSetSigBuf (b : Bool) (s : State) : Result := runSetBit s.cfg.chip.fields.sigbuf b s

/-- `getSigBuf` (R219). -/
def execGetSigBuf (s : State) : Result := runGetField s.cfg.chip.fields.sigbuf s

/-- `setFormat(b)` (R220). -/
def execSetFormat (b : Bool) (s : State) : Result := runSetBit s.cfg.chip.fields.format b s

/-- `getFormat` (R221). -/
def execGetFormat (s : State) : Result := runGetField s.cfg.chip.fields.format s

/-- `setConvMode(b)` (R222): the mirror is written first. -/
def execSetConvMode (b : Bool) (s : State) : Result :=
  runScript (startWith [.scycleMirror b] (setBit s.cfg.chip.fields.scycle b s)) [] 0 s

/-- `getConvMode` (R223): from the chip, never from the mirror. -/
def execGetConvMode (s : State) : Result := runGetField s.cfg.chip.fields.scycle s

end Sys2Proof.Machine
end

