-- ==== Sys2Proof/Machine/Ctrl3.lean ====
section
/-! DEFINITION. The CTRL3 gain and calibration-enable accessors (45_config_ctrl3.md R260 to R270). -/

namespace Sys2Proof.Machine

/-- `setGain(g)` (R260): clamped, then packed. -/
def execSetGain (g : Nat) (s : State) : Result := runScript (setField s.cfg.chip.fields.dgain (clampGain s.cfg g) s) [] 0 s

/-- `getGain` (R261): as read, not clamped. -/
def execGetGain (s : State) : Result := runGetField s.cfg.chip.fields.dgain s

/-- `setNoSysGainCal(b)` (R262). -/
def execSetNoSysGainCal (b : Bool) (s : State) : Result := runSetBit s.cfg.chip.fields.nosysg b s

/-- `getNoSysGainCal` (R263). -/
def execGetNoSysGainCal (s : State) : Result := runGetField s.cfg.chip.fields.nosysg s

/-- `setNoSysOffsetCal(b)` (R264). -/
def execSetNoSysOffsetCal (b : Bool) (s : State) : Result := runSetBit s.cfg.chip.fields.nosyso b s

/-- `getNoSysOffsetCal` (R265). -/
def execGetNoSysOffsetCal (s : State) : Result := runGetField s.cfg.chip.fields.nosyso s

/-- `setNoSelfGainCal(b)` (R266). -/
def execSetNoSelfGainCal (b : Bool) (s : State) : Result := runSetBit s.cfg.chip.fields.noscg b s

/-- `getNoSelfGainCal` (R267). -/
def execGetNoSelfGainCal (s : State) : Result := runGetField s.cfg.chip.fields.noscg s

/-- `setNoSelfOffsetCal(b)` (R268). -/
def execSetNoSelfOffsetCal (b : Bool) (s : State) : Result := runSetBit s.cfg.chip.fields.nosco b s

/-- `getNoSelfOffsetCal` (R269). -/
def execGetNoSelfOffsetCal (s : State) : Result := runGetField s.cfg.chip.fields.nosco s

end Sys2Proof.Machine
end

