-- ==== Sys2Proof/Machine/Frames.lean ====
section
/-! DEFINITION. The frame rows of the opcode table: each frame byte opens the framer transaction of its rule (40_framer.md
R140 to R144), which returns the value read, or 0 (notes/assumptions/11.md). -/

namespace Sys2Proof.Machine

/-- `readByte(addr)` alone, returning the byte zero-extended (R140). -/
def runReadByte (r : Reg) (s : State) : Result :=
  runScript (readByte s.cfg (s.cfg.addr r)) [] (zext32 (byteRead s)) s

/-- `writeByte(addr, data)` alone (R142). -/
def runWriteByte (r : Reg) (data : Byte) (s : State) : Result :=
  runScript (writeByte s.cfg (s.cfg.addr r) data) [] 0 s

/-- `sendCommand(opcode)` alone (R144): no settle wait and no change of phase, which belong to the operations. -/
def runCommand (opcode : Byte) (s : State) : Result := runScript (sendCommand s.cfg opcode) [] 0 s

/-- RFRAME_STAT: `readByte` (R140). -/
def execRframeStat (s : State) : Result := runReadByte .stat s

/-- RFRAME_CTRL1: `readByte` (R140). -/
def execRframeCtrl1 (s : State) : Result := runReadByte .ctrl1 s

/-- RFRAME_CTRL2: `readByte` (R140). -/
def execRframeCtrl2 (s : State) : Result := runReadByte .ctrl2 s

/-- RFRAME_CTRL3: `readByte` (R140). -/
def execRframeCtrl3 (s : State) : Result := runReadByte .ctrl3 s

/-- RFRAME_DATA: `readTriple` (R141). -/
def execRframeData (s : State) : Result := runGetTriple .data s

/-- RFRAME_SOC: `readTriple` (R141). -/
def execRframeSoc (s : State) : Result := runGetTriple .soc s

/-- RFRAME_SGC: `readTriple` (R141). -/
def execRframeSgc (s : State) : Result := runGetTriple .sgc s

/-- RFRAME_SCOC: `readTriple` (R141). -/
def execRframeScoc (s : State) : Result := runGetTriple .scoc s

/-- RFRAME_SCGC: `readTriple` (R141). -/
def execRframeScgc (s : State) : Result := runGetTriple .scgc s

/-- WFRAME_CTRL1: `writeByte` (R142). -/
def execWframeCtrl1 (v : Byte) (s : State) : Result := runWriteByte .ctrl1 v s

/-- WFRAME_CTRL2: `writeByte` (R142). -/
def execWframeCtrl2 (v : Byte) (s : State) : Result := runWriteByte .ctrl2 v s

/-- WFRAME_CTRL3: `writeByte` (R142). -/
def execWframeCtrl3 (v : Byte) (s : State) : Result := runWriteByte .ctrl3 v s

/-- WFRAME_SOC: `writeTriple` (R143). -/
def execWframeSoc (v : Word24) (s : State) : Result := runSetTriple .soc v s

/-- WFRAME_SGC: `writeTriple` (R143). -/
def execWframeSgc (v : Word24) (s : State) : Result := runSetTriple .sgc v s

/-- WFRAME_SCOC: `writeTriple` (R143). -/
def execWframeScoc (v : Word24) (s : State) : Result := runSetTriple .scoc v s

/-- WFRAME_SCGC: `writeTriple` (R143). -/
def execWframeScgc (v : Word24) (s : State) : Result := runSetTriple .scgc v s

/-- CMD_RATE: `sendCommand` (R144, R111). -/
def execCmdRate (code : Nat) (s : State) : Result := runCommand (BitVec.ofNat 8 code) s

/-- CMD_POWERDOWN: `sendCommand` (R144, R111). -/
def execCmdPowerDown (s : State) : Result := runCommand s.cfg.chip.pdOpcode s

/-- CMD_SELFCAL: `sendCommand` (R144, R111). -/
def execCmdSelfCal (s : State) : Result := runCommand s.cfg.chip.cal0 s

/-- CMD_SYSOFFCAL: `sendCommand` (R144, R111). -/
def execCmdSysOffCal (s : State) : Result := runCommand s.cfg.chip.cal1 s

/-- CMD_SYSGAINCAL: `sendCommand` (R144, R111). -/
def execCmdSysGainCal (s : State) : Result := runCommand (s.cfg.chip.cal0 ||| s.cfg.chip.cal1) s

end Sys2Proof.Machine
end

