-- ==== Sys2Proof/Machine/Gpio.lean ====
section
/-! DEFINITION. The CTRL2 GPIO accessors (44_config_ctrl2_gpio.md R240 to R245). -/

namespace Sys2Proof.Machine

/-- A GPIO setter: an out-of-range pin is ignored (R244). -/
def runSetPin (nibble : Field) (pin : Nat) (b : Bool) (s : State) : Result :=
  if pinInRange pin then runSetBit (pinField nibble pin) b s else runScript [] [] 0 s

/-- A free value has been drawn. -/
def drawn (s : State) : State := { s with draws := s.draws + 1 }

/-- A GPIO getter: for an out-of-range pin no bus event, and a free Bool as the response (R244, U4). -/
def runGetPin (nibble : Field) (pin : Nat) (s : State) : Result :=
  if pinInRange pin then runGetField (pinField nibble pin) s
  else runScript [] [] (boolResponse (Config.freePin s.draws)) (drawn s)

/-- `setGpioDir(pin, dir)` (R240). -/
def execSetGpioDir (pin : Nat) (b : Bool) (s : State) : Result := runSetPin s.cfg.chip.fields.dir pin b s

/-- `getGpioDir(pin)` (R241). -/
def execGetGpioDir (pin : Nat) (s : State) : Result := runGetPin s.cfg.chip.fields.dir pin s

/-- `setGpioValue(pin, value)` (R242). -/
def execSetGpioValue (pin : Nat) (b : Bool) (s : State) : Result := runSetPin s.cfg.chip.fields.dio pin b s

/-- `getGpioValue(pin)` (R243). -/
def execGetGpioValue (pin : Nat) (s : State) : Result := runGetPin s.cfg.chip.fields.dio pin s

end Sys2Proof.Machine
end

