-- ==== Sys2Proof/Machine/Sequencer.lean ====
section
/-! DEFINITION. The Conversion and Calibration Sequencer: begin, end, the three calibrations, read and setRate
(41_sequencer.md R161 to R167). -/

namespace Sys2Proof.Machine

/-- A calibration (R163 to R165): the command, the settle wait, and then the phase. -/
def calibration (p : Params) (opcode : Byte) (ms : Nat) : List Micro :=
  sendCommand p opcode ++ [⟨[], .delayMs ms, [.phase .calibrated]⟩]

/-- The script of `begin` (R161). -/
def beginScript (p : Params) : List Micro :=
  [⟨[.phase .configuring], .cfgBus, []⟩]
    ++ writeByte p (p.addr .ctrl1) p.chip.defaultCtrl1
    ++ writeByte p (p.addr .ctrl2) p.chip.defaultCtrl2
    ++ writeByte p (p.addr .ctrl3) p.chip.defaultCtrl3
    ++ calibration p p.chip.cal0 (tSelfcalMs p)
    ++ endWith [.rateMirror (rateMirrorOf p.chip.defaultRate), .phase .converting]
        (sendCommand p (rateOpcode p.rateArgMask p.chip.defaultRate))

/-- `begin` (R161). -/
def execBegin (s : State) : Result := runScript (beginScript s.cfg) [] 0 s

/-- `end` (R162); the phase changes when it completes (R160). -/
def execEnd (s : State) : Result :=
  runScript (sendCommand s.cfg s.cfg.chip.pdOpcode ++ [Prim.teardown.alone]) [.phase .uninitialized] 0 s

/-- `selfCal` (R163). -/
def execSelfCal (s : State) : Result := runScript (calibration s.cfg s.cfg.chip.cal0 (tSelfcalMs s.cfg)) [] 0 s

/-- `sysOffsetCal` (R164). -/
def execSysOffsetCal (s : State) : Result := runScript (calibration s.cfg s.cfg.chip.cal1 (tSyscalMs s.cfg)) [] 0 s

/-- `sysGainCal` (R165). -/
def execSysGainCal (s : State) : Result :=
  runScript (calibration s.cfg (s.cfg.chip.cal0 ||| s.cfg.chip.cal1) (tSyscalMs s.cfg)) [] 0 s

/-- The script of `read` (R166) with its loop unrolled to the polls taken so far: a sample and a delay for each
not-ready sample counted, one more sample, and the DATA read (notes/assumptions/3.md). -/
def readScript (p : Params) (pollCount : Nat) : List Micro :=
  (List.replicate pollCount [Prim.sample.alone, (Prim.delayUs p.chip.pollUs).alone]).flatten
    ++ [Prim.sample.alone] ++ readTriple p (p.addr .data)

/-- `read` (R166). -/
def execRead (s : State) : Result := runScript (readScript s.cfg s.pollCount) [] (tripleRead s) s

/-- `setRate(code)` (R167). -/
def execSetRate (a : Nat) (s : State) : Result :=
  runScript
    (startWith [.rateMirror (rateMirrorOf a)]
      (endWith [.phase .converting] (sendCommand s.cfg (rateOpcode s.cfg.rateArgMask a)))) [] 0 s

end Sys2Proof.Machine
end

