-- ==== Sys2Proof/Machine/Status.lean ====
section
/-! DEFINITION. The STAT getters (42_status.md R190 to R196). -/

namespace Sys2Proof.Machine

/-- `getReady` (R190). -/
def execGetReady (s : State) : Result := runGetField s.cfg.chip.fields.rdy s

/-- `getMeasStat` (R191). -/
def execGetMeasStat (s : State) : Result := runGetField s.cfg.chip.fields.mstat s

/-- `getUnderRange` (R192). -/
def execGetUnderRange (s : State) : Result := runGetField s.cfg.chip.fields.ur s

/-- `getOverRange` (R193). -/
def execGetOverRange (s : State) : Result := runGetField s.cfg.chip.fields.or s

/-- `getRate` (R194): from the chip, not from the mirror. -/
def execGetRate (s : State) : Result := runGetField s.cfg.chip.fields.rate s

/-- `getSysGainOverRange` (R195). -/
def execGetSysGainOverRange (s : State) : Result := runGetField s.cfg.chip.fields.sysgor s

end Sys2Proof.Machine
end

