-- ==== Sys2Proof/Machine/Dispatch.lean ====
section
/-! DEFINITION. One arm per instruction: its meaning, the step it takes from where `opstep` stands. -/

namespace Sys2Proof.Machine

/-- The next primitive step of instruction `i` (00_scope.md R13, 10_state.md R36). -/
def exec (i : Instr) (s : State) : Host.Outcome State Fault Refusal :=
  match i with
  | .beginOp => Sys2Proof.Machine.execBegin s
  | .endOp => Sys2Proof.Machine.execEnd s
  | .readOp => Sys2Proof.Machine.execRead s
  | .selfCal => Sys2Proof.Machine.execSelfCal s
  | .sysOffsetCal => Sys2Proof.Machine.execSysOffsetCal s
  | .sysGainCal => Sys2Proof.Machine.execSysGainCal s
  | .setRate a => Sys2Proof.Machine.execSetRate a s
  | .getReady => Sys2Proof.Machine.execGetReady s
  | .getMeasStat => Sys2Proof.Machine.execGetMeasStat s
  | .getUnderRange => Sys2Proof.Machine.execGetUnderRange s
  | .getOverRange => Sys2Proof.Machine.execGetOverRange s
  | .getRate => Sys2Proof.Machine.execGetRate s
  | .getSysGainOverRange => Sys2Proof.Machine.execGetSysGainOverRange s
  | .setLineFreq b => Sys2Proof.Machine.execSetLineFreq b s
  | .getLineFreq => Sys2Proof.Machine.execGetLineFreq s
  | .setInputRange b => Sys2Proof.Machine.execSetInputRange b s
  | .getInputRange => Sys2Proof.Machine.execGetInputRange s
  | .setClockSource b => Sys2Proof.Machine.execSetClockSource b s
  | .getClockSource => Sys2Proof.Machine.execGetClockSource s
  | .setRefBuf b => Sys2Proof.Machine.execSetRefBuf b s
  | .getRefBuf => Sys2Proof.Machine.execGetRefBuf s
  | .setSigBuf b => Sys2Proof.Machine.execSetSigBuf b s
  | .getSigBuf => Sys2Proof.Machine.execGetSigBuf s
  | .setFormat b => Sys2Proof.Machine.execSetFormat b s
  | .getFormat => Sys2Proof.Machine.execGetFormat s
  | .setConvMode b => Sys2Proof.Machine.execSetConvMode b s
  | .getConvMode => Sys2Proof.Machine.execGetConvMode s
  | .setGpioDir pin b => Sys2Proof.Machine.execSetGpioDir pin b s
  | .getGpioDir pin => Sys2Proof.Machine.execGetGpioDir pin s
  | .setGpioValue pin b => Sys2Proof.Machine.execSetGpioValue pin b s
  | .getGpioValue pin => Sys2Proof.Machine.execGetGpioValue pin s
  | .setGain g => Sys2Proof.Machine.execSetGain g s
  | .getGain => Sys2Proof.Machine.execGetGain s
  | .setNoSysGainCal b => Sys2Proof.Machine.execSetNoSysGainCal b s
  | .getNoSysGainCal => Sys2Proof.Machine.execGetNoSysGainCal s
  | .setNoSysOffsetCal b => Sys2Proof.Machine.execSetNoSysOffsetCal b s
  | .getNoSysOffsetCal => Sys2Proof.Machine.execGetNoSysOffsetCal s
  | .setNoSelfGainCal b => Sys2Proof.Machine.execSetNoSelfGainCal b s
  | .getNoSelfGainCal => Sys2Proof.Machine.execGetNoSelfGainCal s
  | .setNoSelfOffsetCal b => Sys2Proof.Machine.execSetNoSelfOffsetCal b s
  | .getNoSelfOffsetCal => Sys2Proof.Machine.execGetNoSelfOffsetCal s
  | .getSOC => Sys2Proof.Machine.execGetSOC s
  | .setSOC d => Sys2Proof.Machine.execSetSOC d s
  | .getSGC => Sys2Proof.Machine.execGetSGC s
  | .setSGC d => Sys2Proof.Machine.execSetSGC d s
  | .getSCOC => Sys2Proof.Machine.execGetSCOC s
  | .setSCOC d => Sys2Proof.Machine.execSetSCOC d s
  | .getSCGC => Sys2Proof.Machine.execGetSCGC s
  | .setSCGC d => Sys2Proof.Machine.execSetSCGC d s
  | .rframeStat => Sys2Proof.Machine.execRframeStat s
  | .rframeCtrl1 => Sys2Proof.Machine.execRframeCtrl1 s
  | .rframeCtrl2 => Sys2Proof.Machine.execRframeCtrl2 s
  | .rframeCtrl3 => Sys2Proof.Machine.execRframeCtrl3 s
  | .rframeData => Sys2Proof.Machine.execRframeData s
  | .rframeSoc => Sys2Proof.Machine.execRframeSoc s
  | .rframeSgc => Sys2Proof.Machine.execRframeSgc s
  | .rframeScoc => Sys2Proof.Machine.execRframeScoc s
  | .rframeScgc => Sys2Proof.Machine.execRframeScgc s
  | .wframeCtrl1 v => Sys2Proof.Machine.execWframeCtrl1 v s
  | .wframeCtrl2 v => Sys2Proof.Machine.execWframeCtrl2 v s
  | .wframeCtrl3 v => Sys2Proof.Machine.execWframeCtrl3 v s
  | .wframeSoc v => Sys2Proof.Machine.execWframeSoc v s
  | .wframeSgc v => Sys2Proof.Machine.execWframeSgc v s
  | .wframeScoc v => Sys2Proof.Machine.execWframeScoc v s
  | .wframeScgc v => Sys2Proof.Machine.execWframeScgc v s
  | .cmdRate code => Sys2Proof.Machine.execCmdRate code s
  | .cmdPowerDown => Sys2Proof.Machine.execCmdPowerDown s
  | .cmdSelfCal => Sys2Proof.Machine.execCmdSelfCal s
  | .cmdSysOffCal => Sys2Proof.Machine.execCmdSysOffCal s
  | .cmdSysGainCal => Sys2Proof.Machine.execCmdSysGainCal s

end Sys2Proof.Machine
end

