-- ==== Sys2Proof/Machine/Step.lean ====
section
/-! DEFINITION. One step of the machine, and how a table word is placed where the step finds its instruction. -/

namespace Sys2Proof.Machine

/-- One step: the Host's move of this step, and then, if nothing is presented and an operation is in flight, the next
primitive step of that operation (00_scope.md R13, 10_state.md R36, 41_sequencer.md R170). A faulted Block has no step
but a reset (60_exceptions.md R305, R308); an idle one waits (70_reset_and_hazards.md R341). -/
def step (s : State) : Host.Outcome State Fault Refusal :=
  if resetNow s then .next (blockReset (beginStep s))
  else if s.fault ≠ 0 then .fault .halted
  else
    match requestNow s with
    | some w => .next (present w (beginStep s))
    | none =>
      if s.busy then
        match inFlight s with
        | some i => exec i (beginStep s)
        | none => .fault .nothingInFlight
      else .next (beginStep s)

/-- `n` steps of instruction `i` one after the other: its operation, when nothing else happens at the ports. -/
def execSteps (i : Instr) : Nat → State → Host.Outcome State Fault Refusal
  | 0, s => .next s
  | n + 1, s =>
    match exec i s with
    | .next s1 => execSteps i n s1
    | .fault r => .fault r
    | .refused r => .refused r

/-- The Host presents these requests, each when the Block is free (R89): how a program is loaded
(notes/assumptions/4.md). -/
def State.withRequests (s : State) (ws : List ReqWord) : State := { s with hostIn := s.hostIn ++ ws.map .whenFree }

/-- The Host's moves without a presentation while busy, or a reset, at the front. -/
def quietMoves (moves : List HostMove) : List HostMove :=
  match moves with
  | .now _ :: rest | .reset :: rest => quietMoves rest
  | .idle :: rest => .idle :: rest
  | .whenFree w :: rest => .whenFree w :: rest
  | [] => []

/-- `s` with the table word `w` of `nbits` bits in flight at its first step: a request as accepted (R170), a frame as a
transaction placed on the framer. What else is set is what the fetch needs: no fault, no presentation in the coming step
(notes/assumptions/12.md). -/
def State.withFetchWord (s : State) (nbits w : Nat) : State :=
  { s with
    busy      := true
    curReq    := match tableEncoded nbits w with | .request r => some r | .mosi _ => none
    framer    := match tableEncoded nbits w with | .request _ => none | .mosi bytes => some bytes
    opstep    := 0
    pollCount := 0
    fault     := 0
    rx        := []
    waiting   := false
    hostIn    := quietMoves s.hostIn }

end Sys2Proof.Machine
end

