-- ==== Sys2Proof/Safety.lean ====
section
/-! DEFINITION. What counts as a safe run, in the terms the claims use: the shape of a bus trace (20_memory.md R76, R77;
10_state.md R39), the plan of beats of each instruction's script, the invariants of the machine, the state after a
completed operation, and states that differ only in the mirrors (10_state.md R34, R35). -/

namespace Sys2Proof.Machine

/-! ## Transactions on the bus (R76) -/

/-- Where a trace stands. -/
inductive BusPos where
  /-- Chip select is deasserted. -/
  | outside
  /-- Right after `CS(true)`. -/
  | selected
  /-- After the frame byte and `n` data bytes. -/
  | inData (n : Nat)
deriving DecidableEq, Repr

/-- Chip select is asserted there. -/
def BusPos.inside : BusPos → Bool
  | .outside => false
  | .selected | .inData _ => true

/-- What a primitive does to the bus. -/
inductive Beat where
  | select
  /-- An exchange whose received byte is discarded. -/
  | send
  /-- An exchange whose received byte is kept. -/
  | keep
  | deselect
  /-- An event outside transactions: configuration, teardown, ready sample, delay. -/
  | other
deriving DecidableEq, Repr

/-- R76: a transaction is `CS(true)`, one frame byte, 0, 1 or 3 data bytes, `CS(false)`, and nothing else may stand
inside; R39: an exchange occurs only while chip select is asserted. -/
def beatMove (p : BusPos) (b : Beat) : Option BusPos :=
  match p, b with
  | .outside, .select => some .selected
  | .outside, .other => some .outside
  | .selected, .send | .selected, .keep => some (.inData 0)
  | .inData n, .send | .inData n, .keep => if n < 3 then some (.inData (n + 1)) else none
  | .inData n, .deselect => if n = 0 ∨ n = 1 ∨ n = 3 then some .outside else none
  | .outside, .send | .outside, .keep | .outside, .deselect => none
  | .selected, .select | .selected, .deselect | .selected, .other => none
  | .inData _, .select | .inData _, .other => none

/-- Where a sequence of beats that begins outside a transaction stands; `none` if it breaks R76. -/
def beatRun (bs : List Beat) : Option BusPos := bs.foldl (fun p b => p.bind (fun q => beatMove q b)) (some .outside)

/-- The beat of an event. -/
def BusEvent.beat : BusEvent → Beat
  | .cs true => .select
  | .cs false => .deselect
  | .xfer _ _ => .send
  | .cfgBus _ | .teardown | .ready _ | .delayUs _ | .delayMs _ => .other

/-- Where a trace stands; `none` if it breaks R76. -/
def busRun (t : List BusEvent) : Option BusPos := beatRun (t.map BusEvent.beat)

/-- The beat of a primitive. -/
def Prim.beat : Prim → Beat
  | .cs true => .select
  | .cs false => .deselect
  | .send _ => .send
  | .recv => .keep
  | .cfgBus | .teardown | .sample | .delayUs _ | .delayMs _ => .other

/-! ## The plan of an instruction -/

/-- The beats of `readByte` (R140). -/
def planReadByte : List Beat := [.select, .send, .keep, .deselect]

/-- The beats of `readTriple` (R141). -/
def planReadTriple : List Beat := [.select, .send, .keep, .keep, .keep, .deselect]

/-- The beats of `writeByte` (R142). -/
def planWriteByte : List Beat := [.select, .send, .send, .deselect]

/-- The beats of `writeTriple` (R143). -/
def planWriteTriple : List Beat := [.select, .send, .send, .send, .send, .deselect]

/-- The beats of `sendCommand` (R144). -/
def planCommand : List Beat := [.select, .send, .deselect]

/-- The beats of a read-modify-write (R146, R147). -/
def planModify : List Beat := planReadByte ++ planWriteByte

/-- The primitives of an instruction's script, one beat each, before its `respond`; `polls` is how many not-ready
samples a `read` has counted. -/
def plan (i : Instr) (polls : Nat) : List Beat :=
  match i with
  | .beginOp =>
    [.other] ++ planWriteByte ++ planWriteByte ++ planWriteByte ++ planCommand ++ [.other] ++ planCommand
  | .endOp => planCommand ++ [.other]
  | .readOp => (List.replicate polls [Beat.other, Beat.other]).flatten ++ [.other] ++ planReadTriple
  | .selfCal | .sysOffsetCal | .sysGainCal => planCommand ++ [.other]
  | .setRate _ | .cmdRate _ | .cmdPowerDown | .cmdSelfCal | .cmdSysOffCal | .cmdSysGainCal => planCommand
  | .setGpioDir pin _ | .setGpioValue pin _ => if pin < 4 then planModify else []
  | .getGpioDir pin | .getGpioValue pin => if pin < 4 then planReadByte else []
  | .setLineFreq _ | .setInputRange _ | .setClockSource _ | .setRefBuf _ | .setSigBuf _ | .setFormat _ | .setConvMode _
  | .setGain _ | .setNoSysGainCal _ | .setNoSysOffsetCal _ | .setNoSelfGainCal _ | .setNoSelfOffsetCal _ => planModify
  | .getReady | .getMeasStat | .getUnderRange | .getOverRange | .getRate | .getSysGainOverRange
  | .getLineFreq | .getInputRange | .getClockSource | .getRefBuf | .getSigBuf | .getFormat | .getConvMode
  | .getGain | .getNoSysGainCal | .getNoSysOffsetCal | .getNoSelfGainCal | .getNoSelfOffsetCal
  | .rframeStat | .rframeCtrl1 | .rframeCtrl2 | .rframeCtrl3 => planReadByte
  | .getSOC | .getSGC | .getSCOC | .getSCGC
  | .rframeData | .rframeSoc | .rframeSgc | .rframeScoc | .rframeScgc => planReadTriple
  | .wframeCtrl1 _ | .wframeCtrl2 _ | .wframeCtrl3 _ => planWriteByte
  | .setSOC _ | .setSGC _ | .setSCOC _ | .setSCGC _
  | .wframeSoc _ | .wframeSgc _ | .wframeScoc _ | .wframeScgc _ => planWriteTriple

/-! ## Invariants -/

/-- An idle Block without a fault (R36): nothing in flight and the bus at rest. -/
def AtRest (s : State) : Prop :=
  s.curReq = none ∧ s.framer = none ∧ s.opstep = 0 ∧ s.rx = [] ∧ busRun s.trace = some .outside

/-- Instruction `i` is in flight: `opstep` counts the primitives of its script that have been taken (R36), the trace
stands where those primitives put it, chip select is asserted exactly inside a transaction (R77), and `rx` holds one
byte for each kept exchange. -/
def Underway (i : Instr) (s : State) : Prop :=
  s.opstep ≤ (plan i s.pollCount).length ∧
  busRun s.trace = beatRun ((plan i s.pollCount).take s.opstep) ∧
  (busRun s.trace).map BusPos.inside = some s.cs ∧
  s.rx.length = ((plan i s.pollCount).take s.opstep).count .keep

/-- The discipline of the bus: legal fault code (R301), a faulted or idle Block has chip select deasserted (R33, R305),
and the trace is a sequence of whole transactions up to the one in flight (R76). -/
def BusDisciplined (s : State) : Prop :=
  s.fault.toNat ≤ 4 ∧
  (s.fault ≠ 0 → s.busy = false) ∧
  (s.busy = false → s.cs = false) ∧
  (s.fault = 0 → s.busy = false → AtRest s) ∧
  (s.busy = true → ∃ i, inFlight s = some i ∧ Underway i s)

/-- Where `i` has not configured the bus yet, or has torn it down (R161, R162). -/
def BusNotNeeded (i : Instr) (s : State) : Prop :=
  (i = .beginOp ∧ s.opstep = 0) ∨ (i = .endOp ∧ s.opstep = 4 ∧ s.busCfg = none)

/-- The bus is configured whenever an operation uses it (R39): outside `Uninitialized` the transport is configured, but
for the first step of `begin` and the last of `end`. -/
def BusConfigured (s : State) : Prop :=
  s.fault = 0 → s.framer = none ∧
    (s.busy = false → (s.phase = .uninitialized ↔ s.busCfg = none)) ∧
    (s.busy = true → s.phase ≠ .uninitialized ∧
      ∃ i, inFlight s = some i ∧ (BusNotNeeded i s ∨ (s.busCfg ≠ none ∧ ¬ (i = .endOp ∧ 4 ≤ s.opstep))))

/-! ## Delays (R40) -/

/-- The delay at which instruction `i` stands, if it stands at one: the settle wait of a calibration (R163 to R165) and
of `begin` (R161), and the poll interval of `read` (R166). -/
def delayDue (i : Instr) (s : State) : Option BusEvent :=
  match i with
  | .selfCal => if s.opstep = 3 then some (.delayMs (tSelfcalMs s.cfg)) else none
  | .sysOffsetCal | .sysGainCal => if s.opstep = 3 then some (.delayMs (tSyscalMs s.cfg)) else none
  | .beginOp => if s.opstep = 16 then some (.delayMs (tSelfcalMs s.cfg)) else none
  | .readOp =>
    if s.opstep % 2 = 1 ∧ s.opstep < 2 * s.pollCount then some (.delayUs s.cfg.chip.pollUs) else none
  | _ => none

/-- The phase when a delay of `i` is over: `Calibrated` after a settle wait (R160), as it was after a poll interval. -/
def phaseAfterDelay (i : Instr) (q : Phase) : Phase := if i = .readOp then q else .calibrated

/-! ## Completed operations -/

/-- An operation is at its first step. -/
def AtStart (s : State) : Prop := s.opstep = 0 ∧ s.rx = [] ∧ s.waiting = false

/-- The Host timer does its duty at the next delay (R89). -/
def TimerDutiful (s : State) : Prop := timerReport s = .done

/-- `s` after an operation that emitted `events` and responded `v`, with the Device left at `d` and `n` free values
drawn: everything else is as it was in `s`, but for the request bookkeeping of R171. -/
def afterOperation (s : State) (events : List BusEvent) (v : Word32) (d : Device) (n : Nat) : State :=
  { s with
    trace     := s.trace ++ events
    cs        := false
    respValid := true
    respValue := v
    rsp       := s.rsp ++ responsePairs s.curReq v
    busy      := false
    curReq    := none
    opstep    := 0
    rx        := []
    waiting   := false
    framer    := none
    dev       := d
    draws     := n }

/-- `s` after `respond(v)` (R171). -/
def responded (s : State) (v : Word32) : State :=
  { s with
    respValid := true
    respValue := v
    rsp       := s.rsp ++ responsePairs s.curReq v
    busy      := false
    curReq    := none
    opstep    := 0
    rx        := []
    waiting   := false
    framer    := none }

/-! ## The event sequences of the framer (R140 to R144), with the bytes the Device answers -/

/-- `readByte`: `m` is discarded, `v` is the value. -/
def readByteEvents (frame dummy m v : Byte) : List BusEvent := [.cs true, .xfer frame m, .xfer dummy v, .cs false]

/-- `readTriple`. -/
def readTripleEvents (frame dummy m b2 b1 b0 : Byte) : List BusEvent :=
  [.cs true, .xfer frame m, .xfer dummy b2, .xfer dummy b1, .xfer dummy b0, .cs false]

/-- `writeByte`. -/
def writeByteEvents (frame data m m' : Byte) : List BusEvent := [.cs true, .xfer frame m, .xfer data m', .cs false]

/-- `writeTriple`. -/
def writeTripleEvents (frame : Byte) (data : Word24) (m m2 m1 m0 : Byte) : List BusEvent :=
  [.cs true, .xfer frame m, .xfer (data.extractLsb' 16 8) m2, .xfer (data.extractLsb' 8 8) m1,
   .xfer (data.extractLsb' 0 8) m0, .cs false]

/-- `sendCommand`. -/
def commandEvents (frame m : Byte) : List BusEvent := [.cs true, .xfer frame m, .cs false]

/-- The command frame of an opcode, START being bit 7 or bit 6 (R104, R105). -/
def commandByte (sb : StartBit) (opcode : Byte) : Byte :=
  (opcode &&& 0x3F) ||| (match sb with | .bit7 => 0x80 | .bit6 => 0x40)

/-! ## Bits of a byte -/

/-- The new byte of a single-bit field (R146). -/
def bitSet (mask : Byte) (value : Bool) (old : Byte) : Byte :=
  (old &&& (0xFF ^^^ mask)) ||| (if value then mask else 0x00)

/-- Bit `k` of a byte, zero-extended (R10, R171). -/
def bitOf (k : Nat) (v : Byte) : Word32 := (BitVec.ofBool (v.getLsbD k)).setWidth 32

/-! ## The shapes of an operation's result

Each says of `i`, for every value of the parameters, that the whole operation, from its first step, answers a next state
that is `afterOperation`, and that its last step, `respond`, does, with the value that rests on the bytes received.
Whatever bytes the Device answers, they stand in the trace. Each says last what the frame bytes and the values are with
the chip constants of R7, `Chip.default`. -/

/-- `i` is one `readByte` of the register `reg p`, and responds `value p v` for the byte `v` read; with the constants of
R7 the frame byte is `frame` and the response `literal v`. -/
def ReadsByte (i : Instr) (reg : Params → Reg) (frame : Byte) (value : Params → Byte → Word32)
    (literal : Byte → Word32) : Prop :=
  (∀ s, AtStart s → ∃ m v d n, execSteps i 5 s =
    .next (afterOperation s (readByteEvents (rframe s.cfg (s.cfg.addr (reg s.cfg))) s.cfg.dummy m v) (value s.cfg v) d n)) ∧
  (∀ s v, s.opstep = 4 → s.rx = [v] → exec i s = .next (responded s (value s.cfg v))) ∧
  ∀ p : Params, p.chip = .default → rframe p (p.addr (reg p)) = frame ∧ ∀ v, value p v = literal v

/-- `i` is one `readTriple` of the register `reg`, and responds the sign extension of the 24 bits read (R141); with the
constants of R7 the frame byte is `frame`. -/
def ReadsTriple (i : Instr) (reg : Reg) (frame : Byte) : Prop :=
  (∀ s, AtStart s → ∃ m b2 b1 b0 d n, execSteps i 7 s =
    .next (afterOperation s (readTripleEvents (rframe s.cfg (s.cfg.addr reg)) s.cfg.dummy m b2 b1 b0)
      (BitVec.signExtend 32 (b2 ++ b1 ++ b0)) d n)) ∧
  (∀ s b2 b1 b0, s.opstep = 6 → s.rx = [b2, b1, b0] →
    exec i s = .next (responded s (BitVec.signExtend 32 (b2 ++ b1 ++ b0)))) ∧
  ∀ p : Params, p.chip = .default → rframe p (p.addr reg) = frame

/-- `i` is one `writeByte` of the register `reg` with this payload, and responds 0; with the constants of R7 the frame
byte is `frame`. -/
def WritesByte (i : Instr) (reg : Reg) (frame data : Byte) : Prop :=
  (∀ s, AtStart s → ∃ m m' d n, execSteps i 5 s =
    .next (afterOperation s (writeByteEvents (wframe s.cfg (s.cfg.addr reg)) data m m') 0 d n)) ∧
  (∀ s, s.opstep = 4 → exec i s = .next (responded s 0)) ∧
  ∀ p : Params, p.chip = .default → wframe p (p.addr reg) = frame

/-- `i` is one `writeTriple` of the register `reg` with this payload, and responds 0; with the constants of R7 the frame
byte is `frame`. -/
def WritesTriple (i : Instr) (reg : Reg) (frame : Byte) (data : Word24) : Prop :=
  (∀ s, AtStart s → ∃ m m2 m1 m0 d n, execSteps i 7 s =
    .next (afterOperation s (writeTripleEvents (wframe s.cfg (s.cfg.addr reg)) data m m2 m1 m0) 0 d n)) ∧
  (∀ s, s.opstep = 6 → exec i s = .next (responded s 0)) ∧
  ∀ p : Params, p.chip = .default → wframe p (p.addr reg) = frame

/-- `i` is one `sendCommand` of the opcode `opcode p`, and responds 0; with the constants of R7 the opcode is
`literal`. -/
def SendsCommand (i : Instr) (opcode : Params → Byte) (literal : Byte) : Prop :=
  (∀ s, AtStart s → ∃ m d n, execSteps i 4 s =
    .next (afterOperation s (commandEvents (commandByte s.cfg.start (opcode s.cfg)) m) 0 d n)) ∧
  (∀ s, s.opstep = 3 → exec i s = .next (responded s 0)) ∧
  ∀ p : Params, p.chip = .default → opcode p = literal

/-- `i` reads a byte of the register `reg p` and writes `new p old` back, and responds 0 (R146, R147); with the constants
of R7 the frame bytes are `rf` and `wf` and the new byte is `literal old`. -/
def Modifies (i : Instr) (reg : Params → Reg) (rf wf : Byte) (new : Params → Byte → Byte) (literal : Byte → Byte) :
    Prop :=
  (∀ s, AtStart s → ∃ m old m0 m1 d n, execSteps i 9 s = .next (afterOperation s
      (readByteEvents (rframe s.cfg (s.cfg.addr (reg s.cfg))) s.cfg.dummy m old ++
        writeByteEvents (wframe s.cfg (s.cfg.addr (reg s.cfg))) (new s.cfg old) m0 m1) 0 d n)) ∧
  (∀ s, s.opstep = 8 → exec i s = .next (responded s 0)) ∧
  ∀ p : Params, p.chip = .default →
    rframe p (p.addr (reg p)) = rf ∧ wframe p (p.addr (reg p)) = wf ∧ ∀ old, new p old = literal old

/-- The value of a field of FIELD_MAP in a byte of its register, zero-extended (R148, R171). -/
def fieldValue (field : FieldMap → Field) (p : Params) (v : Byte) : Word32 :=
  ((v &&& (field p.chip.fields).mask) >>> (field p.chip.fields).shift).setWidth 32

/-- The register of a field of FIELD_MAP. -/
def fieldReg (field : FieldMap → Field) (p : Params) : Reg := (field p.chip.fields).reg

/-- A getter of a field of FIELD_MAP (R148): one `readByte`. -/
def ReadsField (i : Instr) (field : FieldMap → Field) (frame : Byte) (literal : Byte → Word32) : Prop :=
  ReadsByte i (fieldReg field) frame (fieldValue field) literal

/-- A setter of a single-bit field of FIELD_MAP (R146): one read-modify-write. -/
def ModifiesBit (i : Instr) (field : FieldMap → Field) (rf wf mask : Byte) (b : Bool) : Prop :=
  Modifies i (fieldReg field) rf wf (fun p => bitSet (field p.chip.fields).mask b) (bitSet mask b)

/-- A request word with this op and these operands (those the operation uses) is the request `i` (R115 to R117). -/
def RequestOf (op : Nat) (a : Option Nat) (b : Option Bool) (d : Option Word24) (i : Instr) : Prop :=
  ∀ w : ReqWord, w.extractLsb' 46 2 = 0 → (w.extractLsb' 40 6).toNat = op →
    (∀ x, a = some x → (w.extractLsb' 32 8).toNat = x) → (∀ x, b = some x → w.getLsbD 24 = x) →
    (∀ x, d = some x → w.extractLsb' 0 24 = x) → decodeRequest w = .ok i

/-- Presented to an idle Block in `Uninitialized`, a word that decodes to `i` raises NotInitialized and emits nothing
(R170, R302). -/
def NeedsBegin (i : Instr) : Prop :=
  ∀ (s : State) (w : ReqWord) (rest : List HostMove), s.hostIn = .now w :: rest → s.fault = 0 → s.busy = false →
    s.phase = .uninitialized → decodeRequest w = .ok i →
    ∃ t, step s = .next t ∧ t.fault = 1 ∧ t.curReq = some w ∧ t.rsp = s.rsp ∧ (s.cs = false → t.trace = s.trace)

/-! ## The mirrors (R34, R35) -/

/-- The state without what the mirrors hold. -/
def eraseMirrors (s : State) : State := { s with rateMirror := none, scycleMirror := none }

/-- An outcome without what the mirrors hold. -/
def eraseOutcome (r : Result) : Result :=
  match r with
  | .next s => .next (eraseMirrors s)
  | .fault f => .fault f
  | .refused f => .refused f

end Sys2Proof.Machine
end

