-- ==== Sys2Proof/Certificates/Slice0/Obligations.lean ====
section
/-! DEFINITION. The statements about this machine, one definition each. The shapes and invariants they use are in
Sys2Proof/Safety.lean. -/

open Sys2Proof Sys2Proof.Machine

/-- A Block reset sets every state element to its reset value. Formalises R340. -/
def Obligations.ResetValuesOfEveryElement : Prop :=
  ∀ s : State, ∀ t ∈ [blockReset s, State.reset],
    t.phase = .uninitialized ∧ t.busCfg = none ∧ t.cs = false ∧ t.rateMirror = none ∧ t.scycleMirror = none ∧
    t.busy = false ∧ t.curReq = none ∧ t.opstep = 0 ∧ t.pollCount = 0 ∧ t.fault = 0 ∧
    t.respValid = false ∧ t.respValue = 0 ∧ ∀ e ∈ t.trace, e ∈ s.trace

/-- A reset by the Host is a Block reset and does not touch the device registers. Rests on 70_reset_and_hazards.md
R340, 70_reset_and_hazards.md R341, 60_exceptions.md R308, notes/assumptions/16.md. -/
def Obligations.HostResetRunsBlockReset : Prop :=
  (∀ (s : State) rest, s.hostIn = .reset :: rest → step s = .next (blockReset { s with hostIn := rest })) ∧
  (∀ (s : State) rest r, s.hostIn = .reset :: rest → s.dev = .ref r → ∃ t l, step s = .next t ∧ t.dev = .ref { r with link := l }) ∧
  (∀ (s : State) rest a, s.hostIn = .reset :: rest → s.dev = .oracle a → ∃ t, step s = .next t ∧ t.dev = .oracle a)

/-- An idle Block accepts a legal request and enters it as the operation in flight. Rests on 41_sequencer.md R170,
41_sequencer.md R160, 20_memory.md R89, notes/assumptions/1.md, notes/assumptions/4.md. -/
def Obligations.LegalRequestIsAccepted : Prop :=
  ∀ (s : State) w i rest, (s.hostIn = .now w :: rest ∨ s.hostIn = .whenFree w :: rest) → s.fault = 0 → s.busy = false →
    decodeRequest w = .ok i → (s.phase ≠ .uninitialized ∨ i = .beginOp) →
    step s = .next { s with
      hostIn := rest, respValid := false, busy := true, curReq := some w, opstep := 0, pollCount := 0,
      rx := [], waiting := false, framer := none,
      phase := if i = .beginOp then .configuring else s.phase }

/-- A request that may not be accepted raises the first fault that applies. Rests on 60_exceptions.md R302,
60_exceptions.md R303, 60_exceptions.md R304, 60_exceptions.md R305, 60_exceptions.md R307, 60_exceptions.md R306,
notes/assumptions/14.md, notes/assumptions/19.md. -/
def Obligations.RequestFaultsByPriority : Prop :=
  (∀ (s : State) (w : ReqWord) (rest : List HostMove) (code : BitVec 8), s.fault = 0 →
    (s.hostIn = .now w :: rest ∨ (s.hostIn = .whenFree w :: rest ∧ s.busy = false)) →
    ((s.busy = true ∧ code = 2) ∨
     (s.busy = false ∧ (∀ i, decodeRequest w ≠ .ok i) ∧ code = 3) ∨
     (s.busy = false ∧ (∃ i, decodeRequest w = .ok i ∧ i ≠ .beginOp) ∧ s.phase = .uninitialized ∧ code = 1)) →
    ∃ t, step s = .next t ∧ t.fault = code ∧ t.busy = false ∧ t.curReq = some w ∧ t.cs = false ∧
      t.trace = s.trace ++ (if s.cs = true then [.cs false] else []) ∧ t.rsp = s.rsp ∧ t.respValid = false ∧
      t.phase = s.phase ∧ t.busCfg = s.busCfg ∧ t.rateMirror = s.rateMirror ∧ t.scycleMirror = s.scycleMirror ∧
      t.opstep = s.opstep ∧ t.pollCount = s.pollCount ∧ t.respValue = s.respValue ∧ t.cfg = s.cfg) ∧
  (∀ s t : State, step s = .next t → s.fault = 0 → t.fault = 4 →
    s.busy = true ∧ inFlight s = some .readOp ∧ ∀ w rest, s.hostIn ≠ .now w :: rest)

/-- A faulted Block takes no step; only a Block reset clears the fault. Formalises R308. -/
def Obligations.FaultedBlockTakesNoStep : Prop :=
  (∀ s : State, s.fault ≠ 0 → (∀ rest, s.hostIn ≠ .reset :: rest) → step s = .fault .halted) ∧
  (∀ (s : State) rest, s.fault ≠ 0 → s.hostIn = .reset :: rest → ∃ t, step s = .next t ∧ t.fault = 0 ∧ t.busy = false)

/-- A step changes the fault register only by raising a fault of the table, or by a reset. Rests on 60_exceptions.md
R301, 10_state.md R38. -/
def Obligations.FaultIsSetOnlyByRaising : Prop :=
  (∀ s t : State, step s = .next t → s.fault = 0 → t.fault ≠ 0 →
    t.fault.toNat ≤ 4 ∧ t.busy = false ∧ t.cs = false ∧ t.rsp = s.rsp ∧ t.respValid = false) ∧
  (∀ s t : State, step s = .next t → s.fault ≠ 0 → t.fault = 0 ∧ ∃ rest, s.hostIn = .reset :: rest)

/-- With P_READ_TIMEOUT = N, the N-th not-ready sample of read raises ReadTimeout; with none it never does. Rests on
60_exceptions.md R306, notes/assumptions/3.md, notes/assumptions/19.md. -/
def Obligations.ReadTimeoutAtTheNthSample : Prop :=
  (∀ (s : State) l ls N, s.opstep = 2 * s.pollCount → s.readyIn = l :: ls → l ≠ s.cfg.readyAsserted → s.cs = false →
    s.cfg.readTimeout = some N → N ≤ s.pollCount + 1 →
    exec .readOp s = .next { s with
      readyIn := ls, trace := s.trace ++ [.ready l], pollCount := s.pollCount + 1, fault := 4, busy := false,
      respValid := false, rx := [], waiting := false, framer := none }) ∧
  (∀ (s : State) l ls, s.opstep = 2 * s.pollCount → s.readyIn = l :: ls → l ≠ s.cfg.readyAsserted →
    (∀ N, s.cfg.readTimeout = some N → s.pollCount + 1 < N) →
    exec .readOp s = .next { s with
      readyIn := ls, trace := s.trace ++ [.ready l], pollCount := s.pollCount + 1, opstep := s.opstep + 1 }) ∧
  State.reset.cfg.readTimeout = none

/-- A step of a busy Block is exec of the instruction in flight. Rests on 00_scope.md R13, 10_state.md R36,
70_reset_and_hazards.md R341, notes/assumptions/5.md, notes/assumptions/11.md, notes/assumptions/14.md. -/
def Obligations.StepRunsTheInstructionInFlight : Prop :=
  (∀ (s : State) i, s.fault = 0 → s.busy = true → (∀ w rest, s.hostIn ≠ .now w :: rest) → (∀ rest, s.hostIn ≠ .reset :: rest) →
    ((s.framer = none ∧ ∃ w, s.curReq = some w ∧ decodeRequest w = .ok i) ∨
     (∃ bytes, s.framer = some bytes ∧ decode s.cfg (.mosi bytes) = .ok i)) →
    step s = exec i { s with respValid := false, hostIn := (match s.hostIn with | .idle :: rest => rest | h => h) }) ∧
  (∀ (s : State) rest, s.fault = 0 → s.busy = false → ((s.hostIn = [] ∧ rest = []) ∨ s.hostIn = .idle :: rest) →
    step s = .next { s with respValid := false, hostIn := rest })

/-- A table word that decodes to i, placed by withFetchWord, is what the next step runs. Rests on 30_encoding.md,
notes/assumptions/12.md. -/
def Obligations.PlacedTableWordRunsNext : Prop :=
  ∀ (s : State) nbits w i, s.cfg.chip = .default → s.cfg.start = .bit7 → decodeTableWord nbits w = some i → ∃ t,
    step (s.withFetchWord nbits w) = exec i t ∧ AtStart t ∧ t.busy = true ∧ t.pollCount = 0 ∧ t.fault = 0 ∧
    t.trace = s.trace ∧ t.phase = s.phase ∧ t.dev = s.dev ∧ t.cfg = s.cfg

/-- A step emits at most one event; opstep advances by one, restarts at acceptance and response, and is kept by a
stall or a fault. Rests on 00_scope.md R13, 10_state.md R36, 10_state.md R37, 41_sequencer.md R170,
41_sequencer.md R171, 60_exceptions.md R305, notes/assumptions/19.md. -/
def Obligations.OnePrimitiveEventPerStep : Prop :=
  ∀ s t : State, BusDisciplined s → step s = .next t → (∀ rest, s.hostIn ≠ .reset :: rest) →
    (t.trace = s.trace ∨ ∃ e, t.trace = s.trace ++ [e]) ∧
    (t.rsp = s.rsp ∨ ∃ w, s.curReq = some w ∧ t.rsp = s.rsp ++ [(w, t.respValue)] ∧ t.respValid = true ∧ t.busy = false) ∧
    t.cfg = s.cfg ∧
    (s.busy = true → t.busy = true → t.opstep = s.opstep + 1 ∨ (t.opstep = s.opstep ∧ t.waiting = true)) ∧
    (s.busy = false → t.busy = true → t.opstep = 0) ∧
    (s.busy = true → t.busy = false → t.fault = 0 → t.opstep = 0 ∧ t.respValid = true) ∧
    (s.busy = false → t.busy = false → t.fault = 0 → t.opstep = s.opstep) ∧
    (t.fault ≠ 0 → t.opstep = s.opstep ∧ t.respValid = false) ∧
    (t.respValid = true → s.busy = true ∧ t.busy = false ∧ t.fault = 0)

/-- Every instruction answers a next state at every position of its script. Rests on 40_framer.md R145,
41_sequencer.md R171, 20_memory.md R89, 60_exceptions.md R306, notes/assumptions/11.md. -/
def Obligations.EveryPrimitiveStepCompletes : Prop :=
  ∀ (i : Instr) (s : State), s.opstep ≤ (plan i s.pollCount).length → TimerDutiful s → ∃ t, exec i s = .next t ∧
    (∀ b, (plan i s.pollCount)[s.opstep]? = some b →
      (i = .readOp ∧ (∃ N, s.cfg.readTimeout = some N ∧ N ≤ s.pollCount + 1) ∧ t.fault = 4 ∧ t.busy = false) ∨
      (t.opstep = s.opstep + 1 ∧
        ((s.waiting = true ∧ t.trace = s.trace) ∨
         ∃ e, t.trace = s.trace ++ [e] ∧ (e.beat = b ∨ (b = .keep ∧ e.beat = .send))))) ∧
    (s.opstep = (plan i s.pollCount).length →
      t.busy = false ∧ t.respValid = true ∧ t.curReq = none ∧ t.opstep = 0 ∧ t.trace = s.trace ∧
      t.rsp = s.rsp ++ responsePairs s.curReq t.respValue)

/-- The read and write frame bytes of every address. Formalises R101, R103. -/
def Obligations.FrameBytesOfEveryAddress : Prop :=
  (∀ (p : Params) (addr : Byte),
    rframe p addr = ((addr &&& 0xF) <<< 1) ||| pStart p.start ||| pMode p ||| p.chip.read ∧
    wframe p addr = ((addr &&& 0xF) <<< 1) ||| pStart p.start ||| pMode p) ∧
  (∀ (p : Params) (addr : Byte), p.chip = .default →
    rframe p addr = ((addr &&& 0xF) <<< 1) ||| 0xC1 ∧ wframe p addr = ((addr &&& 0xF) <<< 1) ||| 0xC0)

/-- A command frame is the low six opcode bits with START, and MODE is 0. Formalises R104. -/
def Obligations.CommandFrameKeepsSixBits : Prop :=
  (∀ (p : Params) (op : Byte), cframe p op = (op &&& 0x3F) ||| pStart p.start ∧ cframe p op = cframe p (op &&& 0x3F) ∧
    (p.chip.startMode = 0xC0 → cframe p op &&& pMode p = 0)) ∧
  (∀ p : Params, p.start = .bit7 → (∀ r : Byte, r < 8 → cframe p r = 0x80 ||| r) ∧
    cframe p 0x08 = 0x88 ∧ cframe p 0x10 = 0x90 ∧ cframe p 0x20 = 0xA0 ∧ cframe p 0x30 = 0xB0)

/-- A bus monitor reads back every frame byte the framer builds. Rests on 30_encoding.md R102, 30_encoding.md R106,
30_encoding.md R112, 30_encoding.md R113. -/
def Obligations.FrameViewReadsBackEveryFrame : Prop :=
  (∀ (p : Params) (x : Byte), p.chip.startMode = 0xC0 → p.chip.read = 0x01 →
    viewFrame p (rframe p x) = .registerRead (x &&& 0xF) ∧ viewFrame p (wframe p x) = .registerWrite (x &&& 0xF) ∧
    viewFrame p (cframe p x) = .command (x &&& 0x3F) ∧
    rframe p x &&& 0x20 = 0 ∧ wframe p x &&& 0x20 = 0 ∧
    rframe p x &&& pStart p.start ≠ 0 ∧ wframe p x &&& pStart p.start ≠ 0 ∧ cframe p x &&& pStart p.start ≠ 0) ∧
  (∀ (p : Params) (x : Byte), p.chip = .default →
    viewOpcode p x = ⟨x.getLsbD 5, x.getLsbD 4, x.getLsbD 3, x &&& 0x07⟩)

/-- Words written out from the encodings decode to the instruction they stand for. Rests on 30_encoding.md R115,
30_encoding.md R116, 95_test_vectors.md L2.9. -/
def Obligations.TableWordsDecodeToTheirInstruction : Prop :=
  decodeTableWord 48 0x280700000000 = some (.setGain 7) ∧ decodeTableWord 48 0x200200000000 = some (.setGpioDir 2 false) ∧
  decodeTableWord 48 0x220101000000 = some (.setGpioValue 1 true) ∧
  decodeTableWord 48 0x390000800000 = some (.setSOC 0x800000) ∧ decodeTableWord 48 0x060500000000 = some (.setRate 5) ∧
  decodeTableWord 48 0x3FFFFFFFFFFF = some (.setSCGC 0xFFFFFF) ∧ decodeTableWord 48 0x1E0000000000 = none ∧
  decodeTableWord 48 0x800000000000 = none ∧ decodeTableWord 8 0xC9 = some .rframeData ∧
  decodeTableWord 8 0xC4 = some (.wframeCtrl2 0) ∧ decodeTableWord 8 0x90 = some .cmdSelfCal ∧
  decodeTableWord 8 0x88 = some .cmdPowerDown ∧ decodeTableWord 8 0x83 = some (.cmdRate 3) ∧
  decodeTableWord 8 0x43 = none

/-- Decoding the encoding of a well-formed instruction gives it back, with every operand. Rests on 30_encoding.md R101
to R117, notes/assumptions/9.md. -/
def Obligations.DecodeOfEncodeIsTheInstruction : Prop :=
  Chip.default.coherent = true ∧
  ∀ (p : Params) (i : Instr), p.chip.coherent = true → wellFormed i = true → decode p (encode p i) = .ok i

/-- Every legal op code names its operation, with the operands of its column. Formalises R115, R116. -/
def Obligations.RequestWordsNameTheirOperation : Prop :=
  ∀ (w : ReqWord) (op a : Nat) (b : Bool) (d : Word24), w.extractLsb' 46 2 = 0 →
    (w.extractLsb' 40 6).toNat = op → (w.extractLsb' 32 8).toNat = a → w.getLsbD 24 = b → w.extractLsb' 0 24 = d →
    (op = 0x00 → decodeRequest w = .ok .beginOp) ∧
    (op = 0x01 → decodeRequest w = .ok .endOp) ∧
    (op = 0x02 → decodeRequest w = .ok .readOp) ∧
    (op = 0x03 → decodeRequest w = .ok .selfCal) ∧
    (op = 0x04 → decodeRequest w = .ok .sysOffsetCal) ∧
    (op = 0x05 → decodeRequest w = .ok .sysGainCal) ∧
    (op = 0x06 → decodeRequest w = .ok (.setRate a)) ∧
    (op = 0x08 → decodeRequest w = .ok .getReady) ∧
    (op = 0x09 → decodeRequest w = .ok .getMeasStat) ∧
    (op = 0x0A → decodeRequest w = .ok .getUnderRange) ∧
    (op = 0x0B → decodeRequest w = .ok .getOverRange) ∧
    (op = 0x0C → decodeRequest w = .ok .getRate) ∧
    (op = 0x0D → decodeRequest w = .ok .getSysGainOverRange) ∧
    (op = 0x10 → decodeRequest w = .ok (.setLineFreq b)) ∧
    (op = 0x11 → decodeRequest w = .ok .getLineFreq) ∧
    (op = 0x12 → decodeRequest w = .ok (.setInputRange b)) ∧
    (op = 0x13 → decodeRequest w = .ok .getInputRange) ∧
    (op = 0x14 → decodeRequest w = .ok (.setClockSource b)) ∧
    (op = 0x15 → decodeRequest w = .ok .getClockSource) ∧
    (op = 0x16 → decodeRequest w = .ok (.setRefBuf b)) ∧
    (op = 0x17 → decodeRequest w = .ok .getRefBuf) ∧
    (op = 0x18 → decodeRequest w = .ok (.setSigBuf b)) ∧
    (op = 0x19 → decodeRequest w = .ok .getSigBuf) ∧
    (op = 0x1A → decodeRequest w = .ok (.setFormat b)) ∧
    (op = 0x1B → decodeRequest w = .ok .getFormat) ∧
    (op = 0x1C → decodeRequest w = .ok (.setConvMode b)) ∧
    (op = 0x1D → decodeRequest w = .ok .getConvMode) ∧
    (op = 0x20 → decodeRequest w = .ok (.setGpioDir a b)) ∧
    (op = 0x21 → decodeRequest w = .ok (.getGpioDir a)) ∧
    (op = 0x22 → decodeRequest w = .ok (.setGpioValue a b)) ∧
    (op = 0x23 → decodeRequest w = .ok (.getGpioValue a)) ∧
    (op = 0x28 → decodeRequest w = .ok (.setGain a)) ∧
    (op = 0x29 → decodeRequest w = .ok .getGain) ∧
    (op = 0x2A → decodeRequest w = .ok (.setNoSysGainCal b)) ∧
    (op = 0x2B → decodeRequest w = .ok .getNoSysGainCal) ∧
    (op = 0x2C → decodeRequest w = .ok (.setNoSysOffsetCal b)) ∧
    (op = 0x2D → decodeRequest w = .ok .getNoSysOffsetCal) ∧
    (op = 0x2E → decodeRequest w = .ok (.setNoSelfGainCal b)) ∧
    (op = 0x2F → decodeRequest w = .ok .getNoSelfGainCal) ∧
    (op = 0x30 → decodeRequest w = .ok (.setNoSelfOffsetCal b)) ∧
    (op = 0x31 → decodeRequest w = .ok .getNoSelfOffsetCal) ∧
    (op = 0x38 → decodeRequest w = .ok .getSOC) ∧
    (op = 0x39 → decodeRequest w = .ok (.setSOC d)) ∧
    (op = 0x3A → decodeRequest w = .ok .getSGC) ∧
    (op = 0x3B → decodeRequest w = .ok (.setSGC d)) ∧
    (op = 0x3C → decodeRequest w = .ok .getSCOC) ∧
    (op = 0x3D → decodeRequest w = .ok (.setSCOC d)) ∧
    (op = 0x3E → decodeRequest w = .ok .getSCGC) ∧
    (op = 0x3F → decodeRequest w = .ok (.setSCGC d))

/-- Exactly the words with bits 47:46 set or an unassigned op are illegal. Formalises R118, R304. -/
def Obligations.IllegalRequestWords : Prop :=
  (∀ w : ReqWord, (∃ e, decodeRequest w = .error e) ↔
    (w.extractLsb' 46 2 ≠ 0 ∨ (w.extractLsb' 40 6).toNat ∈
      [0x07, 0x0E, 0x0F, 0x1E, 0x1F, 0x24, 0x25, 0x26, 0x27, 0x32, 0x33, 0x34, 0x35, 0x36, 0x37])) ∧
  (∀ (s : State) w rest, s.hostIn = .now w :: rest → s.fault = 0 → s.busy = false →
    (w.extractLsb' 46 2 ≠ 0 ∨ (w.extractLsb' 40 6).toNat ∈
      [0x07, 0x0E, 0x0F, 0x1E, 0x1F, 0x24, 0x25, 0x26, 0x27, 0x32, 0x33, 0x34, 0x35, 0x36, 0x37]) →
    ∃ t, step s = .next t ∧ t.fault = 3)

/-- Bits 31:25 and the operand fields an operation does not use change nothing. Formalises R119. -/
def Obligations.IgnoredBitsNeverMatter : Prop :=
  ∀ w w' : ReqWord, w.extractLsb' 40 8 = w'.extractLsb' 40 8 →
    ((w.extractLsb' 40 6).toNat ∈ [0x06, 0x20, 0x21, 0x22, 0x23, 0x28] → w.extractLsb' 32 8 = w'.extractLsb' 32 8) →
    ((w.extractLsb' 40 6).toNat ∈
      [0x10, 0x12, 0x14, 0x16, 0x18, 0x1A, 0x1C, 0x20, 0x22, 0x2A, 0x2C, 0x2E, 0x30] →
      w.getLsbD 24 = w'.getLsbD 24) →
    ((w.extractLsb' 40 6).toNat ∈ [0x39, 0x3B, 0x3D, 0x3F] → w.extractLsb' 0 24 = w'.extractLsb' 0 24) →
    decodeRequest w = decodeRequest w'

/-- The read frames of the 8-bit registers run readByte. Rests on 40_framer.md R140, 40_framer.md R149,
notes/assumptions/11.md. -/
def Obligations.ReadByteFrames : Prop :=
  ReadsByte .rframeStat (fun _ => .stat) 0xC1 (fun _ v => v.setWidth 32) (BitVec.setWidth 32) ∧
  ReadsByte .rframeCtrl1 (fun _ => .ctrl1) 0xC3 (fun _ v => v.setWidth 32) (BitVec.setWidth 32) ∧
  ReadsByte .rframeCtrl2 (fun _ => .ctrl2) 0xC5 (fun _ v => v.setWidth 32) (BitVec.setWidth 32) ∧
  ReadsByte .rframeCtrl3 (fun _ => .ctrl3) 0xC7 (fun _ v => v.setWidth 32) (BitVec.setWidth 32) ∧
  ∀ (p : Params) (addr : Byte), readByte p addr = readByte p (addr &&& 0xF)

/-- The read frames of the 24-bit registers run readTriple. Rests on 40_framer.md R141, 40_framer.md R149,
notes/assumptions/11.md. -/
def Obligations.ReadTripleFrames : Prop :=
  ReadsTriple .rframeData .data 0xC9 ∧ ReadsTriple .rframeSoc .soc 0xCB ∧ ReadsTriple .rframeSgc .sgc 0xCD ∧
  ReadsTriple .rframeScoc .scoc 0xCF ∧ ReadsTriple .rframeScgc .scgc 0xD1 ∧
  (∀ (p : Params) (addr : Byte), readTriple p addr = readTriple p (addr &&& 0xF)) ∧
  (BitVec.signExtend 32 (0x000000 : Word24)).toInt = 0 ∧ (BitVec.signExtend 32 (0x7FFFFF : Word24)).toInt = 8388607 ∧
  (BitVec.signExtend 32 (0x800000 : Word24)).toInt = -8388608 ∧ (BitVec.signExtend 32 (0xFFFFFF : Word24)).toInt = -1

/-- The write frames of the 8-bit registers run writeByte. Rests on 40_framer.md R142, 40_framer.md R149,
notes/assumptions/11.md. -/
def Obligations.WriteByteFrames : Prop :=
  ∀ v : Byte, WritesByte (.wframeCtrl1 v) .ctrl1 0xC2 v ∧ WritesByte (.wframeCtrl2 v) .ctrl2 0xC4 v ∧
    WritesByte (.wframeCtrl3 v) .ctrl3 0xC6 v ∧
    ∀ (p : Params) (addr : Byte), writeByte p addr v = writeByte p (addr &&& 0xF) v

/-- The write frames of the 24-bit registers run writeTriple. Rests on 40_framer.md R143, 40_framer.md R149,
notes/assumptions/11.md. -/
def Obligations.WriteTripleFrames : Prop :=
  ∀ v : Word24, WritesTriple (.wframeSoc v) .soc 0xCA v ∧ WritesTriple (.wframeSgc v) .sgc 0xCC v ∧
    WritesTriple (.wframeScoc v) .scoc 0xCE v ∧ WritesTriple (.wframeScgc v) .scgc 0xD0 v ∧
    ∀ (p : Params) (addr : Byte), writeTriple p addr v = writeTriple p (addr &&& 0xF) v

/-- The command frames run sendCommand: one framed byte, no payload. Rests on 40_framer.md R144, 40_framer.md R149,
notes/assumptions/11.md. -/
def Obligations.CommandFramesSendOneByte : Prop :=
  (∀ code, code < 8 → SendsCommand (.cmdRate code) (fun _ => BitVec.ofNat 8 code) (BitVec.ofNat 8 code)) ∧
  SendsCommand .cmdPowerDown (·.chip.pdOpcode) 0x08 ∧ SendsCommand .cmdSelfCal (·.chip.cal0) 0x10 ∧ SendsCommand .cmdSysOffCal (·.chip.cal1) 0x20 ∧
  SendsCommand .cmdSysGainCal (fun p => p.chip.cal0 ||| p.chip.cal1) 0x30 ∧
  ∀ (p : Params) (op : Byte), sendCommand p op = sendCommand p (op &&& 0x3F)

/-- The read-modify-write byte: the masked bits get the value and no other bit changes. Formalises R146. -/
def Obligations.ModifiedByteKeepsOtherBits : Prop :=
  ∀ (f : Field) (value : Bool) (old : Byte),
    withBit f value old = (old &&& (0xFF ^^^ f.mask)) ||| (if value then f.mask else 0x00) ∧
    withBit f value old &&& (0xFF ^^^ f.mask) = old &&& (0xFF ^^^ f.mask) ∧
    withBit f value old &&& f.mask = (if value then f.mask else 0) ∧
    withBit f (!value) (withBit f value old) &&& (0xFF ^^^ f.mask) = old &&& (0xFF ^^^ f.mask)

/-- Each STAT getter is one read of STAT and responds its field. Formalises R190, R191, R192, R193, R194, R195. -/
def Obligations.StatusGettersReadStat : Prop :=
  ReadsField .getReady (·.rdy) 0xC1 (bitOf 0) ∧ ReadsField .getMeasStat (·.mstat) 0xC1 (bitOf 1) ∧ ReadsField .getUnderRange (·.ur) 0xC1 (bitOf 2) ∧
  ReadsField .getOverRange (·.or) 0xC1 (bitOf 3) ∧
  ReadsField .getRate (·.rate) 0xC1 (fun s => ((s &&& 0x70) >>> 4).setWidth 32) ∧
  ReadsField .getSysGainOverRange (·.sysgor) 0xC1 (bitOf 7) ∧
  ∀ e ∈ [(0x08, Instr.getReady), (0x09, .getMeasStat), (0x0A, .getUnderRange), (0x0B, .getOverRange), (0x0C, .getRate), (0x0D, .getSysGainOverRange)],
    RequestOf e.1 none none none e.2 ∧ NeedsBegin e.2

/-- Each CTRL1 getter is one read of CTRL1 and responds its bit. Formalises R211, R213, R215, R217, R219, R221, R223. -/
def Obligations.Ctrl1GettersReadTheirBit : Prop :=
  ReadsField .getLineFreq (·.linef) 0xC3 (bitOf 7) ∧ ReadsField .getInputRange (·.ub) 0xC3 (bitOf 6) ∧
  ReadsField .getClockSource (·.extclk) 0xC3 (bitOf 5) ∧ ReadsField .getRefBuf (·.refbuf) 0xC3 (bitOf 4) ∧
  ReadsField .getSigBuf (·.sigbuf) 0xC3 (bitOf 3) ∧ ReadsField .getFormat (·.format) 0xC3 (bitOf 2) ∧ ReadsField .getConvMode (·.scycle) 0xC3 (bitOf 1) ∧
  ∀ e ∈ [(0x11, Instr.getLineFreq), (0x13, .getInputRange), (0x15, .getClockSource), (0x17, .getRefBuf), (0x19, .getSigBuf), (0x1B, .getFormat), (0x1D, .getConvMode)],
    RequestOf e.1 none none none e.2 ∧ NeedsBegin e.2

/-- Each CTRL1 setter is one read-modify-write of its bit. Formalises R210, R212, R214, R216, R218, R220. -/
def Obligations.Ctrl1SettersModifyTheirBit : Prop :=
  ∀ b : Bool, ModifiesBit (.setLineFreq b) (·.linef) 0xC3 0xC2 0x80 b ∧ ModifiesBit (.setInputRange b) (·.ub) 0xC3 0xC2 0x40 b ∧
    ModifiesBit (.setClockSource b) (·.extclk) 0xC3 0xC2 0x20 b ∧ ModifiesBit (.setRefBuf b) (·.refbuf) 0xC3 0xC2 0x10 b ∧
    ModifiesBit (.setSigBuf b) (·.sigbuf) 0xC3 0xC2 0x08 b ∧ ModifiesBit (.setFormat b) (·.format) 0xC3 0xC2 0x04 b ∧
    ∀ e ∈ [(0x10, Instr.setLineFreq b), (0x12, .setInputRange b), (0x14, .setClockSource b), (0x16, .setRefBuf b), (0x18, .setSigBuf b), (0x1A, .setFormat b)],
    RequestOf e.1 none (some b) none e.2 ∧ NeedsBegin e.2

/-- setConvMode writes its mirror and modifies bit 1 of CTRL1. Rests on 43_config_ctrl1.md R222,
notes/assumptions/2.md. -/
def Obligations.SetConvModeWritesMirrorAndBit : Prop :=
  ∀ (b : Bool) (s : State),
    (AtStart s → ∃ m old m0 m1 d n,
      execSteps (.setConvMode b) 9 s = .next { (afterOperation s (
        readByteEvents (rframe s.cfg (s.cfg.addr s.cfg.chip.fields.scycle.reg)) s.cfg.dummy m old ++
        writeByteEvents (wframe s.cfg (s.cfg.addr s.cfg.chip.fields.scycle.reg))
          (bitSet s.cfg.chip.fields.scycle.mask b old) m0 m1) 0 d n) with scycleMirror := some b }) ∧
    (s.opstep = 0 → exec (.setConvMode b) s = .next { s with
      scycleMirror := some b, cs := true, trace := s.trace ++ [.cs true], dev := s.dev.select, opstep := 1 }) ∧
    (s.opstep = 8 → exec (.setConvMode b) s = .next (responded s 0)) ∧
    (∀ p : Params, p.chip = .default → rframe p (p.addr p.chip.fields.scycle.reg) = 0xC3 ∧
      wframe p (p.addr p.chip.fields.scycle.reg) = 0xC2 ∧ p.chip.fields.scycle.mask = 0x02) ∧
    ∀ e ∈ [(0x1C, Instr.setConvMode b)],
    RequestOf e.1 none (some b) none e.2 ∧ NeedsBegin e.2

/-- setGpioDir and setGpioValue modify the bit of an existing pin. Formalises R240, R242. -/
def Obligations.GpioSettersModifyTheirPin : Prop :=
  (∀ (pin : Nat) (b : Bool), pin < 4 →
    Modifies (.setGpioDir pin b) (fieldReg (·.dir)) 0xC5 0xC4
      (fun p => bitSet ((1 : Byte) <<< (p.chip.fields.dir.shift + pin)) b) (bitSet ((1 : Byte) <<< (4 + pin)) b) ∧
    Modifies (.setGpioValue pin b) (fieldReg (·.dio)) 0xC5 0xC4
      (fun p => bitSet ((1 : Byte) <<< (p.chip.fields.dio.shift + pin)) b) (bitSet ((1 : Byte) <<< pin) b)) ∧
  (∀ (pin : Nat) (b : Bool) (old : Byte), pin < 4 →
    bitSet ((1 : Byte) <<< (4 + pin)) b old &&& 0x0F = old &&& 0x0F ∧ bitSet ((1 : Byte) <<< pin) b old &&& 0xF0 = old &&& 0xF0) ∧
  (∀ (pin : Nat) (b : Bool) (s : State), 4 ≤ pin → s.opstep = 0 →
    exec (.setGpioDir pin b) s = .next (responded s 0) ∧ exec (.setGpioValue pin b) s = .next (responded s 0)) ∧
  ∀ (pin : Nat) (b : Bool), ∀ e ∈ [(0x20, Instr.setGpioDir pin b), (0x22, .setGpioValue pin b)],
    RequestOf e.1 (some pin) (some b) none e.2 ∧ NeedsBegin e.2

/-- getGpioDir and getGpioValue respond the bit of an existing pin, and a free Bool for another. Rests on
44_config_ctrl2_gpio.md R241, 44_config_ctrl2_gpio.md R243, 44_config_ctrl2_gpio.md R244, notes/assumptions/7.md. -/
def Obligations.GpioGettersReadTheirPin : Prop :=
  (∀ pin : Nat, pin < 4 →
    ReadsByte (.getGpioDir pin) (fieldReg (·.dir)) 0xC5
      (fun p v => ((v &&& ((1 : Byte) <<< (p.chip.fields.dir.shift + pin))) >>> (p.chip.fields.dir.shift + pin)).setWidth 32)
      (bitOf (4 + pin)) ∧
    ReadsByte (.getGpioValue pin) (fieldReg (·.dio)) 0xC5
      (fun p v => ((v &&& ((1 : Byte) <<< (p.chip.fields.dio.shift + pin))) >>> (p.chip.fields.dio.shift + pin)).setWidth 32)
      (bitOf pin)) ∧
  (∀ (pin : Nat) (s : State), 4 ≤ pin → s.opstep = 0 → ∃ u u' : Bool,
    exec (.getGpioDir pin) s = .next { (responded s ((BitVec.ofBool u).setWidth 32)) with draws := s.draws + 1 } ∧
    exec (.getGpioValue pin) s = .next { (responded s ((BitVec.ofBool u').setWidth 32)) with draws := s.draws + 1 }) ∧
  ∀ pin : Nat, ∀ e ∈ [(0x21, Instr.getGpioDir pin), (0x23, .getGpioValue pin)],
    RequestOf e.1 (some pin) none none e.2 ∧ NeedsBegin e.2

/-- setGain clamps to 4 and packs into the top three bits of CTRL3. Formalises R260. -/
def Obligations.SetGainClampsAndPacks : Prop :=
  (∀ g : Nat, Modifies (.setGain g) (fieldReg (·.dgain)) 0xC7 0xC6
    (fun p old => (old &&& (0xFF ^^^ p.chip.fields.dgain.mask)) |||
      ((BitVec.ofNat 8 (min g p.chip.gainMax) <<< p.chip.fields.dgain.shift) &&& p.chip.fields.dgain.mask))
    (fun old => (old &&& 0x1F) ||| ((BitVec.ofNat 8 (min g 4) <<< 5) &&& 0xE0))) ∧
  (∀ (g : Nat) (old : Byte), ((old &&& 0x1F) ||| ((BitVec.ofNat 8 (min g 4) <<< 5) &&& 0xE0)) &&& 0x1F = old &&& 0x1F ∧
    ((old &&& 0x1F) ||| ((BitVec.ofNat 8 (min g 4) <<< 5) &&& 0xE0)).toNat / 32 = min g 4) ∧
  (∀ p : Params, p.chip = .default → withField p.chip.fields.dgain (clampGain p 5) 0x1E = 0x9E ∧
    withField p.chip.fields.dgain (clampGain p 255) 0x1E = 0x9E) ∧
  ∀ g : Nat, ∀ e ∈ [(0x28, Instr.setGain g)],
    RequestOf e.1 (some g) none none e.2 ∧ NeedsBegin e.2

/-- getGain and the calibration-enable getters read their field of CTRL3. Formalises R261, R263, R265, R267, R269. -/
def Obligations.Ctrl3GettersReadTheirField : Prop :=
  ReadsField .getGain (·.dgain) 0xC7 (fun v => ((v &&& 0xE0) >>> 5).setWidth 32) ∧ ReadsField .getNoSysGainCal (·.nosysg) 0xC7 (bitOf 4) ∧
  ReadsField .getNoSysOffsetCal (·.nosyso) 0xC7 (bitOf 3) ∧ ReadsField .getNoSelfGainCal (·.noscg) 0xC7 (bitOf 2) ∧
  ReadsField .getNoSelfOffsetCal (·.nosco) 0xC7 (bitOf 1) ∧
  ∀ e ∈ [(0x29, Instr.getGain), (0x2B, .getNoSysGainCal), (0x2D, .getNoSysOffsetCal), (0x2F, .getNoSelfGainCal), (0x31, .getNoSelfOffsetCal)],
    RequestOf e.1 none none none e.2 ∧ NeedsBegin e.2

/-- The calibration-enable setters modify their bit of CTRL3. Formalises R262, R264, R266, R268. -/
def Obligations.Ctrl3SettersModifyTheirBit : Prop :=
  ∀ b : Bool, ModifiesBit (.setNoSysGainCal b) (·.nosysg) 0xC7 0xC6 0x10 b ∧
    ModifiesBit (.setNoSysOffsetCal b) (·.nosyso) 0xC7 0xC6 0x08 b ∧
    ModifiesBit (.setNoSelfGainCal b) (·.noscg) 0xC7 0xC6 0x04 b ∧
    ModifiesBit (.setNoSelfOffsetCal b) (·.nosco) 0xC7 0xC6 0x02 b ∧
    ∀ e ∈ [(0x2A, Instr.setNoSysGainCal b), (0x2C, .setNoSysOffsetCal b), (0x2E, .setNoSelfGainCal b), (0x30, .setNoSelfOffsetCal b)],
    RequestOf e.1 none (some b) none e.2 ∧ NeedsBegin e.2

/-- The calibration register getters are one readTriple each, sign-extended. Formalises R280, R282, R284, R286. -/
def Obligations.CalibrationRegisterGetters : Prop :=
  ReadsTriple .getSOC .soc 0xCB ∧ ReadsTriple .getSGC .sgc 0xCD ∧ ReadsTriple .getSCOC .scoc 0xCF ∧ ReadsTriple .getSCGC .scgc 0xD1 ∧
  ∀ e ∈ [(0x38, Instr.getSOC), (0x3A, .getSGC), (0x3C, .getSCOC), (0x3E, .getSCGC)],
    RequestOf e.1 none none none e.2 ∧ NeedsBegin e.2

/-- The calibration register setters are one writeTriple each, with no read. Formalises R281, R283, R285, R287. -/
def Obligations.CalibrationRegisterSetters : Prop :=
  ∀ d : Word24, WritesTriple (.setSOC d) .soc 0xCA d ∧ WritesTriple (.setSGC d) .sgc 0xCC d ∧ WritesTriple (.setSCOC d) .scoc 0xCE d ∧
    WritesTriple (.setSCGC d) .scgc 0xD0 d ∧
    ∀ e ∈ [(0x39, Instr.setSOC d), (0x3B, .setSGC d), (0x3D, .setSCOC d), (0x3F, .setSCGC d)],
    RequestOf e.1 none none (some d) e.2 ∧ NeedsBegin e.2

/-- Each calibration sends one command, waits its settle time and enters Calibrated. Formalises R163, R164, R165. -/
def Obligations.CalibrationsCommandAndSettle : Prop :=
  (∀ s : State, AtStart s → TimerDutiful s →
    (∃ T m d n, T = tSelfcalMs s.cfg ∧ execSteps .selfCal 5 s = .next { (afterOperation s
      (commandEvents (commandByte s.cfg.start s.cfg.chip.cal0) m ++ [.delayMs T]) 0 d n) with
        phase := .calibrated, timerIn := s.timerIn.tail }) ∧
    (∃ T m d n, T = tSyscalMs s.cfg ∧ execSteps .sysOffsetCal 5 s = .next { (afterOperation s
      (commandEvents (commandByte s.cfg.start s.cfg.chip.cal1) m ++ [.delayMs T]) 0 d n) with
        phase := .calibrated, timerIn := s.timerIn.tail }) ∧
    (∃ T m d n, T = tSyscalMs s.cfg ∧ execSteps .sysGainCal 5 s = .next { (afterOperation s
      (commandEvents (commandByte s.cfg.start (s.cfg.chip.cal0 ||| s.cfg.chip.cal1)) m ++ [.delayMs T]) 0 d n) with
        phase := .calibrated, timerIn := s.timerIn.tail })) ∧
  (∀ s : State, ∀ i ∈ [Instr.selfCal, .sysOffsetCal, .sysGainCal], s.opstep = 4 → exec i s = .next (responded s 0)) ∧
  (∀ p : Params, p.chip = .default → p.chip.cal0 = 0x10 ∧ p.chip.cal1 = 0x20 ∧ p.chip.cal0 ||| p.chip.cal1 = 0x30 ∧
    200 ≤ tSelfcalMs p ∧ 100 ≤ tSyscalMs p) ∧
  ∀ e ∈ [(0x03, Instr.selfCal), (0x04, .sysOffsetCal), (0x05, .sysGainCal)],
    RequestOf e.1 none none none e.2 ∧ NeedsBegin e.2

/-- The Block stalls in a delay until the timer reports completion. Rests on 10_state.md R40, 00_scope.md R12,
20_memory.md R89, 60_exceptions.md R309, 60_exceptions.md R313, 41_sequencer.md R160, 60_exceptions.md R303,
notes/assumptions/3.md, notes/assumptions/8.md. -/
def Obligations.SettleWaitStallsUntilTheTimerReports : Prop :=
  (∀ (i : Instr) (s : State) e (j : Nat) rest, delayDue i s = some e → s.waiting = false →
    s.timerIn = List.replicate j .notYet ++ .done :: rest →
    execSteps i (j + 1) s = .next { s with
      trace := s.trace ++ [e], timerIn := rest, opstep := s.opstep + 1, phase := phaseAfterDelay i s.phase }) ∧
  (∀ (i : Instr) (s : State) e rest, delayDue i s = some e → s.timerIn = .notYet :: rest →
    exec i s = .next { s with
      trace := s.trace ++ (if s.waiting = true then [] else [e]), timerIn := rest, waiting := true }) ∧
  (∀ (i : Instr) (s : State) e, delayDue i s = some e → TimerDutiful s →
    exec i s = .next { s with
      trace := s.trace ++ (if s.waiting = true then [] else [e]), timerIn := s.timerIn.tail, waiting := false,
      opstep := s.opstep + 1, phase := phaseAfterDelay i s.phase }) ∧
  (∀ (i : Instr) (s : State) e rest, delayDue i s = some e → s.timerIn = .never :: rest →
    exec i s = .fault .timerNeverCompletes) ∧
  (∀ (s : State) w rest, s.fault = 0 → s.busy = true → s.waiting = true → s.hostIn = .now w :: rest →
    ∃ t, step s = .next t ∧ t.fault = 2)

/-- begin configures the bus, writes the three defaults, self-calibrates and sets the default rate. Formalises R161. -/
def Obligations.BeginRunsTheWholeScript : Prop :=
  (∀ s : State, AtStart s → TimerDutiful s → ∃ T m1 m2 m3 m4 m5 m6 m7 m8 d n, T = tSelfcalMs s.cfg ∧
    execSteps .beginOp 21 s = .next { (afterOperation s
      ([.cfgBus ⟨.msbFirst, s.cfg.clkDiv, s.cfg.spiMode⟩] ++ 
        writeByteEvents (wframe s.cfg (s.cfg.addr .ctrl1)) s.cfg.chip.defaultCtrl1 m1 m2 ++
        writeByteEvents (wframe s.cfg (s.cfg.addr .ctrl2)) s.cfg.chip.defaultCtrl2 m3 m4 ++
        writeByteEvents (wframe s.cfg (s.cfg.addr .ctrl3)) s.cfg.chip.defaultCtrl3 m5 m6 ++
        commandEvents (commandByte s.cfg.start s.cfg.chip.cal0) m7 ++ [.delayMs T] ++
        commandEvents (commandByte s.cfg.start (rateOpcode s.cfg.rateArgMask s.cfg.chip.defaultRate)) m8) 0 d n) with
      phase := .converting, busCfg := some ⟨.msbFirst, s.cfg.clkDiv, s.cfg.spiMode⟩, 
      rateMirror := some (BitVec.ofNat 3 s.cfg.chip.defaultRate),
      timerIn := s.timerIn.tail }) ∧
  (∀ s : State, s.opstep = 20 → exec .beginOp s = .next (responded s 0)) ∧
  (∀ p : Params, p.chip = .default →
    wframe p (p.addr .ctrl1) = 0xC2 ∧ wframe p (p.addr .ctrl2) = 0xC4 ∧ wframe p (p.addr .ctrl3) = 0xC6 ∧
    p.chip.defaultCtrl1 = 0xC0 ∧ p.chip.defaultCtrl2 = 0xF5 ∧ p.chip.defaultCtrl3 = 0x1E ∧ p.chip.cal0 = 0x10 ∧
    200 ≤ tSelfcalMs p ∧ rateOpcode p.rateArgMask p.chip.defaultRate = 0x03 ∧ p.chip.defaultRate = 3) ∧
  RequestOf 0x00 none none none .beginOp

/-- end sends the power-down command, tears the bus down and returns to Uninitialized. Rests on 41_sequencer.md R160,
41_sequencer.md R162, notes/assumptions/2.md. -/
def Obligations.EndPowersDownAndTearsDown : Prop :=
  (∀ s : State, AtStart s → ∃ m d n, execSteps .endOp 5 s = .next { (afterOperation s
    (commandEvents (commandByte s.cfg.start s.cfg.chip.pdOpcode) m ++ [.teardown]) 0 d n) with
      phase := .uninitialized, busCfg := none }) ∧
  (∀ s : State, s.opstep = 3 → exec .endOp s = .next { s with busCfg := none, trace := s.trace ++ [.teardown], opstep := 4 }) ∧
  (∀ s : State, s.opstep = 4 → exec .endOp s = .next { (responded s 0) with phase := .uninitialized }) ∧
  (∀ p : Params, p.chip = .default → p.chip.pdOpcode = 0x08) ∧
  ∀ e ∈ [(0x01, Instr.endOp)],
    RequestOf e.1 none none none e.2 ∧ NeedsBegin e.2

/-- setRate writes the mirror, sends the masked code and enters Converting. Formalises R167. -/
def Obligations.SetRateCommandsAndRemembers : Prop :=
  ∀ (a : Nat), (∀ s : State, AtStart s → ∃ m d n, execSteps (.setRate a) 4 s = .next { (afterOperation s
      (commandEvents (commandByte s.cfg.start
        (BitVec.ofNat 8 a &&& (match s.cfg.rateArgMask with | .low3 => 0x07 | .low6 => 0x3F))) m) 0 d n) with
      phase := .converting, rateMirror := some (BitVec.ofNat 3 a) }) ∧
    (∀ s : State, s.opstep = 3 → exec (.setRate a) s = .next (responded s 0)) ∧
    ∀ e ∈ [(0x06, Instr.setRate a)],
    RequestOf e.1 (some a) none none e.2 ∧ NeedsBegin e.2

/-- read polls the ready line until it is asserted, then reads DATA and responds the sign-extended sample. Rests on
41_sequencer.md R166, 60_exceptions.md R306, notes/assumptions/3.md. -/
def Obligations.ReadPollsThenReadsData : Prop :=
  (∀ (k : Nat) (s : State) (levels : List Bool), AtStart s → s.pollCount = 0 →
    s.readyIn = List.replicate k (!s.cfg.readyAsserted) ++ s.cfg.readyAsserted :: levels →
    (∀ r ∈ s.timerIn.take k, r = .done) → (∀ N, s.cfg.readTimeout = some N → k < N) →
    ∃ m b2 b1 b0 d n, execSteps .readOp (2 * k + 8) s = .next { (afterOperation s
      ((List.replicate k [BusEvent.ready (!s.cfg.readyAsserted), BusEvent.delayUs s.cfg.chip.pollUs]).flatten ++
        [.ready s.cfg.readyAsserted] ++ readTripleEvents (rframe s.cfg (s.cfg.addr .data)) s.cfg.dummy m b2 b1 b0)
      (BitVec.signExtend 32 (b2 ++ b1 ++ b0)) d n) with
      pollCount := k, readyIn := levels, timerIn := s.timerIn.drop k }) ∧
  (∀ (s : State) b2 b1 b0, s.opstep = 2 * s.pollCount + 7 → s.rx = [b2, b1, b0] →
    exec .readOp s = .next (responded s (BitVec.signExtend 32 (b2 ++ b1 ++ b0)))) ∧
  (∀ (s : State) l ls N, s.opstep = 2 * s.pollCount → s.readyIn = l :: ls → l ≠ s.cfg.readyAsserted →
    s.cfg.readTimeout = some N → N ≤ s.pollCount + 1 →
    ∃ t, exec .readOp s = .next t ∧ t.fault = 4 ∧ t.busy = false ∧ t.pollCount = s.pollCount + 1) ∧
  (∀ p : Params, p.chip = .default → rframe p (p.addr .data) = 0xC9 ∧ p.chip.pollUs = 1) ∧
  ∀ e ∈ [(0x02, Instr.readOp)],
    RequestOf e.1 none none none e.2 ∧ NeedsBegin e.2

/-- A read without timeout on a line that stays unasserted neither completes nor faults. Rests on 60_exceptions.md
R309, 20_memory.md R85, notes/assumptions/3.md, notes/assumptions/8.md. -/
def Obligations.ReadNeverCompletesOnAnUnassertedLine : Prop :=
  (∀ (k : Nat) (s : State) (levels : List Bool), s.opstep = 0 → s.waiting = false → s.pollCount = 0 →
    s.readyIn = List.replicate k (!s.cfg.readyAsserted) ++ levels →
    (∀ r ∈ s.timerIn.take k, r = .done) → s.cfg.readTimeout = none →
    execSteps .readOp (2 * k) s = .next { s with
      trace := s.trace ++ (List.replicate k [BusEvent.ready (!s.cfg.readyAsserted), BusEvent.delayUs s.cfg.chip.pollUs]).flatten,
      pollCount := k, opstep := 2 * k, readyIn := levels, timerIn := s.timerIn.drop k }) ∧
  (∀ (s : State) rest, s.opstep + 1 = 2 * s.pollCount → s.timerIn = .never :: rest →
    exec .readOp s = .fault .timerNeverCompletes)

/-- The Device oracle's scripted answers are what the exchanges receive, in order. Rests on 20_memory.md R84,
notes/assumptions/6.md. -/
def Obligations.ScriptedAnswersAreReceivedInOrder : Prop :=
  (∀ (s : State) o a rest, s.dev = .oracle (a :: rest) →
    xferDiscard o s = { s with trace := s.trace ++ [.xfer o a], dev := .oracle rest } ∧
    xferKeep s = { s with trace := s.trace ++ [.xfer s.cfg.dummy a], dev := .oracle rest, rx := s.rx ++ [a] }) ∧
  (∀ (s : State) l rest, s.readyIn = l :: rest →
    sampleReady s = (l, { s with readyIn := rest, trace := s.trace ++ [.ready l] }))

/-- On the reference device every setter's write is stored and every getter returns what is held. Rests on
20_memory.md R88, 41_sequencer.md R161, 41_sequencer.md R166, 42_status.md R190 to R195, 43_config_ctrl1.md R210
to R224, 44_config_ctrl2_gpio.md R240 to R245, 45_config_ctrl3.md R260 to R270, 46_calibration_regs.md R280 to
R287, 40_framer.md R140 to R143, notes/assumptions/11.md. -/
def Obligations.ReferenceDeviceReadsBackWhatIsWritten : Prop :=
  ∀ (s : State) (r : RefDev), AtStart s → s.dev = .ref r → r.link = .frame → s.cfg.chip = .default →
    (∀ v : Word24, ∀ e ∈ [(Instr.setSOC v, { r with soc := v }), (.setSGC v, { r with sgc := v }),
        (.setSCOC v, { r with scoc := v }), (.setSCGC v, { r with scgc := v }), (.wframeSoc v, { r with soc := v }),
        (.wframeSgc v, { r with sgc := v }), (.wframeScoc v, { r with scoc := v }), (.wframeScgc v, { r with scgc := v })],
      ∃ t, execSteps e.1 7 s = .next t ∧ t.dev = .ref e.2) ∧
    (∀ e ∈ [(Instr.getSOC, r.soc), (.getSGC, r.sgc), (.getSCOC, r.scoc), (.getSCGC, r.scgc), (.rframeData, r.data),
        (.rframeSoc, r.soc), (.rframeSgc, r.sgc), (.rframeScoc, r.scoc), (.rframeScgc, r.scgc)],
      ∃ t, execSteps e.1 7 s = .next t ∧ t.respValue = BitVec.signExtend 32 e.2 ∧ t.dev = .ref r) ∧
    (∀ e ∈ [(Instr.getReady, bitOf 0 r.stat), (.getMeasStat, bitOf 1 r.stat), (.getUnderRange, bitOf 2 r.stat),
        (.getOverRange, bitOf 3 r.stat), (.getRate, ((r.stat &&& 0x70) >>> 4).setWidth 32),
        (.getSysGainOverRange, bitOf 7 r.stat), (.getLineFreq, bitOf 7 r.ctrl1), (.getInputRange, bitOf 6 r.ctrl1),
        (.getClockSource, bitOf 5 r.ctrl1), (.getRefBuf, bitOf 4 r.ctrl1), (.getSigBuf, bitOf 3 r.ctrl1),
        (.getFormat, bitOf 2 r.ctrl1), (.getConvMode, bitOf 1 r.ctrl1),
        (.getGain, ((r.ctrl3 &&& 0xE0) >>> 5).setWidth 32), (.getNoSysGainCal, bitOf 4 r.ctrl3),
        (.getNoSysOffsetCal, bitOf 3 r.ctrl3), (.getNoSelfGainCal, bitOf 2 r.ctrl3),
        (.getNoSelfOffsetCal, bitOf 1 r.ctrl3), (.rframeStat, r.stat.setWidth 32), (.rframeCtrl1, r.ctrl1.setWidth 32),
        (.rframeCtrl2, r.ctrl2.setWidth 32), (.rframeCtrl3, r.ctrl3.setWidth 32)],
      ∃ t, execSteps e.1 5 s = .next t ∧ t.respValue = e.2 ∧ t.dev = .ref r) ∧
    (∀ pin : Nat, pin < 4 → ∀ e ∈ [(Instr.getGpioDir pin, bitOf (4 + pin) r.ctrl2), (.getGpioValue pin, bitOf pin r.ctrl2)],
      ∃ t, execSteps e.1 5 s = .next t ∧ t.respValue = e.2 ∧ t.dev = .ref r) ∧
    (∀ v : Byte, ∀ e ∈ [(Instr.wframeCtrl1 v, { r with ctrl1 := v }), (.wframeCtrl2 v, { r with ctrl2 := v }),
        (.wframeCtrl3 v, { r with ctrl3 := v })],
      ∃ t, execSteps e.1 5 s = .next t ∧ t.dev = .ref e.2) ∧
    (∀ b : Bool, ∀ e ∈ [(Instr.setLineFreq b, { r with ctrl1 := bitSet 0x80 b r.ctrl1 }),
        (.setInputRange b, { r with ctrl1 := bitSet 0x40 b r.ctrl1 }),
        (.setClockSource b, { r with ctrl1 := bitSet 0x20 b r.ctrl1 }),
        (.setRefBuf b, { r with ctrl1 := bitSet 0x10 b r.ctrl1 }), (.setSigBuf b, { r with ctrl1 := bitSet 0x08 b r.ctrl1 }),
        (.setFormat b, { r with ctrl1 := bitSet 0x04 b r.ctrl1 }), (.setConvMode b, { r with ctrl1 := bitSet 0x02 b r.ctrl1 }),
        (.setNoSysGainCal b, { r with ctrl3 := bitSet 0x10 b r.ctrl3 }),
        (.setNoSysOffsetCal b, { r with ctrl3 := bitSet 0x08 b r.ctrl3 }),
        (.setNoSelfGainCal b, { r with ctrl3 := bitSet 0x04 b r.ctrl3 }),
        (.setNoSelfOffsetCal b, { r with ctrl3 := bitSet 0x02 b r.ctrl3 })],
      ∃ t, execSteps e.1 9 s = .next t ∧ t.dev = .ref e.2) ∧
    (∀ (pin : Nat) (b : Bool), pin < 4 →
      ∀ e ∈ [(Instr.setGpioDir pin b, { r with ctrl2 := bitSet ((1 : Byte) <<< (4 + pin)) b r.ctrl2 }),
        (.setGpioValue pin b, { r with ctrl2 := bitSet ((1 : Byte) <<< pin) b r.ctrl2 })],
      ∃ t, execSteps e.1 9 s = .next t ∧ t.dev = .ref e.2) ∧
    (∀ g : Nat, ∃ t c, execSteps (.setGain g) 9 s = .next t ∧ t.dev = .ref { r with ctrl3 := c } ∧
      c.toNat / 32 = min g 4 ∧ c &&& 0x1F = r.ctrl3 &&& 0x1F) ∧
    (∀ levels, s.pollCount = 0 → s.readyIn = s.cfg.readyAsserted :: levels →
      ∃ t, execSteps .readOp 8 s = .next t ∧ t.respValue = BitVec.signExtend 32 r.data ∧ t.dev = .ref r) ∧
    (TimerDutiful s → ∃ t, execSteps .beginOp 21 s = .next t ∧
      t.dev = .ref { r with ctrl1 := 0xC0, ctrl2 := 0xF5, ctrl3 := 0x1E })

/-- On a device that returns the last written byte, setting a CTRL1 field and setting it back restores the other bits.
Rests on 43_config_ctrl1.md R224, 20_memory.md R88, 95_test_vectors.md S2. -/
def Obligations.SettingAndResettingRestoresOtherBits : Prop :=
  ∀ (s : State) (r : RefDev) (b : Bool), AtStart s → s.dev = .ref r → r.link = .frame → s.cfg.chip = .default →
    ∀ S : (Bool → Instr) × Byte, S ∈ [(Instr.setLineFreq, 0x80), (.setInputRange, 0x40), (.setClockSource, 0x20),
      (.setRefBuf, 0x10), (.setSigBuf, 0x08), (.setFormat, 0x04), (.setConvMode, 0x02)] →
    ∃ t1 t2 c, execSteps (S.1 b) 9 s = .next t1 ∧ execSteps (S.1 (!b)) 9 t1 = .next t2 ∧
      t2.dev = .ref { r with ctrl1 := c } ∧ c &&& (0xFF ^^^ S.2) = r.ctrl1 &&& (0xFF ^^^ S.2) ∧
      c &&& S.2 = (if b then 0 else S.2)

/-- Only begin, end, the calibrations, setRate and a reset change the phase, and only as R160 says. Rests on
41_sequencer.md R160, 41_sequencer.md R161, 41_sequencer.md R163 to R165, 41_sequencer.md R167, 41_sequencer.md
R162, 70_reset_and_hazards.md R340, notes/assumptions/1.md, notes/assumptions/2.md. -/
def Obligations.PhaseChangesOnlyAsTheTableSays : Prop :=
  ∀ s t : State, step s = .next t → t.phase ≠ s.phase →
    ((∃ rest, s.hostIn = .reset :: rest) ∧ t.phase = .uninitialized) ∨
    (s.busy = false ∧ t.busy = true ∧ t.phase = .configuring ∧ ∃ w, t.curReq = some w ∧ decodeRequest w = .ok .beginOp) ∨
    (s.busy = true ∧ ∃ i, inFlight s = some i ∧
      ((i = .beginOp ∧ t.opstep = s.opstep + 1 ∧
        ((s.opstep = 0 ∧ t.phase = .configuring) ∨ (s.opstep = 16 ∧ t.phase = .calibrated) ∨
         (s.opstep = 19 ∧ t.phase = .converting))) ∨
       ((i = .selfCal ∨ i = .sysOffsetCal ∨ i = .sysGainCal) ∧ s.opstep = 3 ∧ t.opstep = 4 ∧ t.phase = .calibrated) ∨
       (∃ a, i = .setRate a ∧ s.opstep = 2 ∧ t.opstep = 3 ∧ t.phase = .converting) ∨
       (i = .endOp ∧ s.opstep = 4 ∧ t.phase = .uninitialized ∧ t.busy = false)))

/-- rate_mirror is written by setRate and begin only, scycle_mirror by setConvMode only. Rests on 10_state.md R34,
10_state.md R35, 92_eei_decisions.md D33. -/
def Obligations.MirrorsHaveTheirWritersOnly : Prop :=
  (∀ s t : State, step s = .next t → (∀ rest, s.hostIn ≠ .reset :: rest) →
    (t.rateMirror ≠ s.rateMirror → s.busy = true ∧
      ((inFlight s = some .beginOp ∧ t.rateMirror = some (BitVec.ofNat 3 s.cfg.chip.defaultRate)) ∨
       ∃ a, inFlight s = some (.setRate a) ∧ t.rateMirror = some (BitVec.ofNat 3 a))) ∧
    (t.scycleMirror ≠ s.scycleMirror → s.busy = true ∧
      ∃ b, inFlight s = some (.setConvMode b) ∧ t.scycleMirror = some b)) ∧
  BitVec.ofNat 3 Chip.default.defaultRate = 3

/-- No event, response or decision depends on the mirrors. Rests on 10_state.md R34, 10_state.md R35,
92_eei_decisions.md D19. -/
def Obligations.MirrorsInfluenceNothing : Prop :=
  ∀ s s' : State, eraseMirrors s = eraseMirrors s' → eraseOutcome (step s) = eraseOutcome (step s')

/-- The state after reset meets the bus discipline and the bus configuration invariant. Rests on
70_reset_and_hazards.md R340, 20_memory.md R77. -/
def Obligations.BusDisciplineHoldsAtReset : Prop :=
  BusDisciplined State.reset ∧ BusConfigured State.reset

/-- Every step keeps the bus discipline: whole transactions, chip select asserted exactly inside one. Rests on
20_memory.md R76, 20_memory.md R77, 10_state.md R33, 10_state.md R36, 60_exceptions.md R305. -/
def Obligations.BusDisciplineIsKept : Prop :=
  ∀ s t : State, BusDisciplined s → step s = .next t → BusDisciplined t

/-- Every step keeps the bus configured while an operation uses it. Rests on 10_state.md R39, 10_state.md R32,
41_sequencer.md R160. -/
def Obligations.BusConfigurationIsKept : Prop :=
  ∀ s t : State, BusConfigured s → step s = .next t → BusConfigured t

/-- A byte is exchanged only while chip select is asserted and the bus is configured. Rests on 10_state.md R39,
20_memory.md R77. -/
def Obligations.ExchangeOnlyUnderChipSelectAndConfiguration : Prop :=
  (∀ (s t : State) (e : BusEvent), BusDisciplined s → BusConfigured s → step s = .next t → t.trace = s.trace ++ [e] →
    ((∃ o i, e = .xfer o i) → s.cs = true ∧ s.busCfg ≠ none) ∧
    ((∃ l, e = .ready l) ∨ (∃ n, e = .delayUs n) ∨ (∃ n, e = .delayMs n) → s.cs = false)) ∧
  (∀ s : State, csPin s = s.cfg.csActive ↔ s.cs = true)

/-- From a disciplined state without a fault, the only stop is a timer that never completes. Rests on 20_memory.md
R89, 40_framer.md R145, 60_exceptions.md R305. -/
def Obligations.NoStopFromADisciplinedState : Prop :=
  ∀ s : State, BusDisciplined s → s.fault = 0 → timerReport s ≠ .never → ∃ t, step s = .next t

/-- begin enters Configuring with its first step, Calibrated when its wait completes, Converting with the rate
command. Rests on 41_sequencer.md R160, 41_sequencer.md R161, notes/assumptions/2.md. -/
def Obligations.BeginEntersEachPhaseWithItsStep : Prop :=
  (∀ s : State, s.opstep = 0 → exec .beginOp s = .next { s with
    phase := .configuring, busCfg := some ⟨.msbFirst, s.cfg.clkDiv, s.cfg.spiMode⟩, opstep := 1,
    trace := s.trace ++ [.cfgBus ⟨.msbFirst, s.cfg.clkDiv, s.cfg.spiMode⟩] }) ∧
  (∀ s : State, s.opstep = 16 → TimerDutiful s → exec .beginOp s = .next { s with
    phase := .calibrated, opstep := 17, timerIn := s.timerIn.tail, waiting := false,
    trace := s.trace ++ (if s.waiting = true then [] else [.delayMs (tSelfcalMs s.cfg)]) }) ∧
  (∀ s : State, s.opstep = 19 → exec .beginOp s = .next { s with
    phase := .converting, rateMirror := some (BitVec.ofNat 3 s.cfg.chip.defaultRate), opstep := 20,
    cs := false, trace := s.trace ++ [.cs false], dev := s.dev.select })
end

