-- ==== Sys2Proof/Laws/Encoding.lean ====
section
/-! SUPPORT. The fields of an assembled request word (30_encoding.md R115), three bytes as a 24-bit value (R73), and what
coherent chip constants give: addresses of 4 bits, each the address of its register only (10_state.md R42). -/

namespace Sys2Proof

@[simp] theorem reqTop_requestWord (op a : Nat) (b : Bool) (d : Word24) : reqTop (requestWord op a b d) = 0 := by
  ext i hi
  simp only [reqTop, requestWord, BitVec.getElem_extractLsb', BitVec.getLsbD_append]
  grind

@[simp] theorem reqOp_requestWord (op a : Nat) (b : Bool) (d : Word24) :
    reqOp (requestWord op a b d) = BitVec.ofNat 6 op := by
  ext i hi
  simp only [reqOp, requestWord, BitVec.getElem_extractLsb', BitVec.getLsbD_append]
  grind

@[simp] theorem reqA_requestWord (op a : Nat) (b : Bool) (d : Word24) :
    reqA (requestWord op a b d) = BitVec.ofNat 8 a := by
  ext i hi
  simp only [reqA, requestWord, BitVec.getElem_extractLsb', BitVec.getLsbD_append]
  grind

@[simp] theorem reqB_requestWord (op a : Nat) (b : Bool) (d : Word24) : reqB (requestWord op a b d) = b := by
  simp only [reqB, requestWord, BitVec.getLsbD_append]
  simp

@[simp] theorem reqData_requestWord (op a : Nat) (b : Bool) (d : Word24) : reqData (requestWord op a b d) = d := by
  ext i hi
  simp only [reqData, requestWord, BitVec.getElem_extractLsb', BitVec.getLsbD_append]
  grind

/-- Sending a 24-bit value and joining its bytes gives it back (R73). -/
theorem join24_split24 (v : Word24) :
    join24 (BitVec.extractLsb' 16 8 v) (BitVec.extractLsb' 8 8 v) (BitVec.extractLsb' 0 8 v) = v := by
  ext i hi
  simp only [join24]
  grind

/-- A register address of coherent constants passes the framer's mask (R42, R101). -/
theorem addr_masked {p : Params} (h : p.chip.coherent = true) (r : Reg) : p.addr r &&& 15#8 = p.addr r := by
  simp [Chip.coherent, Reg.all] at h
  cases r <;> simp [Params.addr, RegAddr.at] <;> tauto

/-- With coherent constants the address of a register names that register (R42). -/
theorem regAt_addr {p : Params} (h : p.chip.coherent = true) (r : Reg) : p.regAt (p.addr r) = some r := by
  simp [Chip.coherent, Reg.all] at h
  obtain ⟨⟨⟨_, _⟩, h⟩, _⟩ := h
  cases r <;> simp [Params.regAt, Reg.all, List.find?, Params.addr] <;> grind

end Sys2Proof
end

