-- ==== Sys2Proof/Laws/State.lean ====
section
/-! SUPPORT. What each update of the state does to each field, true by definition, so that a proof need not unfold a
record update. -/

namespace Sys2Proof.Machine

/-! `emit` -/

@[simp] theorem emit_phase (e : BusEvent) (s : State) : (emit e s).phase = s.phase := rfl
@[simp] theorem emit_busCfg (e : BusEvent) (s : State) : (emit e s).busCfg = s.busCfg := rfl
@[simp] theorem emit_cs (e : BusEvent) (s : State) : (emit e s).cs = s.cs := rfl
@[simp] theorem emit_rateMirror (e : BusEvent) (s : State) : (emit e s).rateMirror = s.rateMirror := rfl
@[simp] theorem emit_scycleMirror (e : BusEvent) (s : State) : (emit e s).scycleMirror = s.scycleMirror := rfl
@[simp] theorem emit_busy (e : BusEvent) (s : State) : (emit e s).busy = s.busy := rfl
@[simp] theorem emit_curReq (e : BusEvent) (s : State) : (emit e s).curReq = s.curReq := rfl
@[simp] theorem emit_opstep (e : BusEvent) (s : State) : (emit e s).opstep = s.opstep := rfl
@[simp] theorem emit_pollCount (e : BusEvent) (s : State) : (emit e s).pollCount = s.pollCount := rfl
@[simp] theorem emit_fault (e : BusEvent) (s : State) : (emit e s).fault = s.fault := rfl
@[simp] theorem emit_respValid (e : BusEvent) (s : State) : (emit e s).respValid = s.respValid := rfl
@[simp] theorem emit_respValue (e : BusEvent) (s : State) : (emit e s).respValue = s.respValue := rfl
@[simp] theorem emit_trace (e : BusEvent) (s : State) : (emit e s).trace = s.trace ++ [e] := rfl
@[simp] theorem emit_rsp (e : BusEvent) (s : State) : (emit e s).rsp = s.rsp := rfl
@[simp] theorem emit_hostIn (e : BusEvent) (s : State) : (emit e s).hostIn = s.hostIn := rfl
@[simp] theorem emit_timerIn (e : BusEvent) (s : State) : (emit e s).timerIn = s.timerIn := rfl
@[simp] theorem emit_readyIn (e : BusEvent) (s : State) : (emit e s).readyIn = s.readyIn := rfl
@[simp] theorem emit_dev (e : BusEvent) (s : State) : (emit e s).dev = s.dev := rfl
@[simp] theorem emit_cfg (e : BusEvent) (s : State) : (emit e s).cfg = s.cfg := rfl
@[simp] theorem emit_rx (e : BusEvent) (s : State) : (emit e s).rx = s.rx := rfl
@[simp] theorem emit_waiting (e : BusEvent) (s : State) : (emit e s).waiting = s.waiting := rfl
@[simp] theorem emit_framer (e : BusEvent) (s : State) : (emit e s).framer = s.framer := rfl
@[simp] theorem emit_draws (e : BusEvent) (s : State) : (emit e s).draws = s.draws := rfl

/-! `advance` -/

@[simp] theorem advance_phase (s : State) : (advance s).phase = s.phase := rfl
@[simp] theorem advance_busCfg (s : State) : (advance s).busCfg = s.busCfg := rfl
@[simp] theorem advance_cs (s : State) : (advance s).cs = s.cs := rfl
@[simp] theorem advance_rateMirror (s : State) : (advance s).rateMirror = s.rateMirror := rfl
@[simp] theorem advance_scycleMirror (s : State) : (advance s).scycleMirror = s.scycleMirror := rfl
@[simp] theorem advance_busy (s : State) : (advance s).busy = s.busy := rfl
@[simp] theorem advance_curReq (s : State) : (advance s).curReq = s.curReq := rfl
@[simp] theorem advance_opstep (s : State) : (advance s).opstep = s.opstep + 1 := rfl
@[simp] theorem advance_pollCount (s : State) : (advance s).pollCount = s.pollCount := rfl
@[simp] theorem advance_fault (s : State) : (advance s).fault = s.fault := rfl
@[simp] theorem advance_respValid (s : State) : (advance s).respValid = s.respValid := rfl
@[simp] theorem advance_respValue (s : State) : (advance s).respValue = s.respValue := rfl
@[simp] theorem advance_trace (s : State) : (advance s).trace = s.trace := rfl
@[simp] theorem advance_rsp (s : State) : (advance s).rsp = s.rsp := rfl
@[simp] theorem advance_hostIn (s : State) : (advance s).hostIn = s.hostIn := rfl
@[simp] theorem advance_timerIn (s : State) : (advance s).timerIn = s.timerIn := rfl
@[simp] theorem advance_readyIn (s : State) : (advance s).readyIn = s.readyIn := rfl
@[simp] theorem advance_dev (s : State) : (advance s).dev = s.dev := rfl
@[simp] theorem advance_cfg (s : State) : (advance s).cfg = s.cfg := rfl
@[simp] theorem advance_rx (s : State) : (advance s).rx = s.rx := rfl
@[simp] theorem advance_waiting (s : State) : (advance s).waiting = s.waiting := rfl
@[simp] theorem advance_framer (s : State) : (advance s).framer = s.framer := rfl
@[simp] theorem advance_draws (s : State) : (advance s).draws = s.draws := rfl

/-! `cfgBus` -/

@[simp] theorem cfgBus_phase (s : State) : (cfgBus s).phase = s.phase := rfl
@[simp] theorem cfgBus_busCfg (s : State) : (cfgBus s).busCfg = some ⟨pBitOrder, s.cfg.clkDiv, s.cfg.spiMode⟩ := rfl
@[simp] theorem cfgBus_cs (s : State) : (cfgBus s).cs = s.cs := rfl
@[simp] theorem cfgBus_rateMirror (s : State) : (cfgBus s).rateMirror = s.rateMirror := rfl
@[simp] theorem cfgBus_scycleMirror (s : State) : (cfgBus s).scycleMirror = s.scycleMirror := rfl
@[simp] theorem cfgBus_busy (s : State) : (cfgBus s).busy = s.busy := rfl
@[simp] theorem cfgBus_curReq (s : State) : (cfgBus s).curReq = s.curReq := rfl
@[simp] theorem cfgBus_opstep (s : State) : (cfgBus s).opstep = s.opstep := rfl
@[simp] theorem cfgBus_pollCount (s : State) : (cfgBus s).pollCount = s.pollCount := rfl
@[simp] theorem cfgBus_fault (s : State) : (cfgBus s).fault = s.fault := rfl
@[simp] theorem cfgBus_respValid (s : State) : (cfgBus s).respValid = s.respValid := rfl
@[simp] theorem cfgBus_respValue (s : State) : (cfgBus s).respValue = s.respValue := rfl
@[simp] theorem cfgBus_trace (s : State) : (cfgBus s).trace = s.trace ++ [.cfgBus ⟨pBitOrder, s.cfg.clkDiv, s.cfg.spiMode⟩] := rfl
@[simp] theorem cfgBus_rsp (s : State) : (cfgBus s).rsp = s.rsp := rfl
@[simp] theorem cfgBus_hostIn (s : State) : (cfgBus s).hostIn = s.hostIn := rfl
@[simp] theorem cfgBus_timerIn (s : State) : (cfgBus s).timerIn = s.timerIn := rfl
@[simp] theorem cfgBus_readyIn (s : State) : (cfgBus s).readyIn = s.readyIn := rfl
@[simp] theorem cfgBus_dev (s : State) : (cfgBus s).dev = s.dev := rfl
@[simp] theorem cfgBus_cfg (s : State) : (cfgBus s).cfg = s.cfg := rfl
@[simp] theorem cfgBus_rx (s : State) : (cfgBus s).rx = s.rx := rfl
@[simp] theorem cfgBus_waiting (s : State) : (cfgBus s).waiting = s.waiting := rfl
@[simp] theorem cfgBus_framer (s : State) : (cfgBus s).framer = s.framer := rfl
@[simp] theorem cfgBus_draws (s : State) : (cfgBus s).draws = s.draws := rfl

/-! `teardown` -/

@[simp] theorem teardown_phase (s : State) : (teardown s).phase = s.phase := rfl
@[simp] theorem teardown_busCfg (s : State) : (teardown s).busCfg = none := rfl
@[simp] theorem teardown_cs (s : State) : (teardown s).cs = s.cs := rfl
@[simp] theorem teardown_rateMirror (s : State) : (teardown s).rateMirror = s.rateMirror := rfl
@[simp] theorem teardown_scycleMirror (s : State) : (teardown s).scycleMirror = s.scycleMirror := rfl
@[simp] theorem teardown_busy (s : State) : (teardown s).busy = s.busy := rfl
@[simp] theorem teardown_curReq (s : State) : (teardown s).curReq = s.curReq := rfl
@[simp] theorem teardown_opstep (s : State) : (teardown s).opstep = s.opstep := rfl
@[simp] theorem teardown_pollCount (s : State) : (teardown s).pollCount = s.pollCount := rfl
@[simp] theorem teardown_fault (s : State) : (teardown s).fault = s.fault := rfl
@[simp] theorem teardown_respValid (s : State) : (teardown s).respValid = s.respValid := rfl
@[simp] theorem teardown_respValue (s : State) : (teardown s).respValue = s.respValue := rfl
@[simp] theorem teardown_trace (s : State) : (teardown s).trace = s.trace ++ [.teardown] := rfl
@[simp] theorem teardown_rsp (s : State) : (teardown s).rsp = s.rsp := rfl
@[simp] theorem teardown_hostIn (s : State) : (teardown s).hostIn = s.hostIn := rfl
@[simp] theorem teardown_timerIn (s : State) : (teardown s).timerIn = s.timerIn := rfl
@[simp] theorem teardown_readyIn (s : State) : (teardown s).readyIn = s.readyIn := rfl
@[simp] theorem teardown_dev (s : State) : (teardown s).dev = s.dev := rfl
@[simp] theorem teardown_cfg (s : State) : (teardown s).cfg = s.cfg := rfl
@[simp] theorem teardown_rx (s : State) : (teardown s).rx = s.rx := rfl
@[simp] theorem teardown_waiting (s : State) : (teardown s).waiting = s.waiting := rfl
@[simp] theorem teardown_framer (s : State) : (teardown s).framer = s.framer := rfl
@[simp] theorem teardown_draws (s : State) : (teardown s).draws = s.draws := rfl

/-! `chipSelect` -/

@[simp] theorem chipSelect_phase (a : Bool) (s : State) : (chipSelect a s).phase = s.phase := rfl
@[simp] theorem chipSelect_busCfg (a : Bool) (s : State) : (chipSelect a s).busCfg = s.busCfg := rfl
@[simp] theorem chipSelect_cs (a : Bool) (s : State) : (chipSelect a s).cs = a := rfl
@[simp] theorem chipSelect_rateMirror (a : Bool) (s : State) : (chipSelect a s).rateMirror = s.rateMirror := rfl
@[simp] theorem chipSelect_scycleMirror (a : Bool) (s : State) : (chipSelect a s).scycleMirror = s.scycleMirror := rfl
@[simp] theorem chipSelect_busy (a : Bool) (s : State) : (chipSelect a s).busy = s.busy := rfl
@[simp] theorem chipSelect_curReq (a : Bool) (s : State) : (chipSelect a s).curReq = s.curReq := rfl
@[simp] theorem chipSelect_opstep (a : Bool) (s : State) : (chipSelect a s).opstep = s.opstep := rfl
@[simp] theorem chipSelect_pollCount (a : Bool) (s : State) : (chipSelect a s).pollCount = s.pollCount := rfl
@[simp] theorem chipSelect_fault (a : Bool) (s : State) : (chipSelect a s).fault = s.fault := rfl
@[simp] theorem chipSelect_respValid (a : Bool) (s : State) : (chipSelect a s).respValid = s.respValid := rfl
@[simp] theorem chipSelect_respValue (a : Bool) (s : State) : (chipSelect a s).respValue = s.respValue := rfl
@[simp] theorem chipSelect_trace (a : Bool) (s : State) : (chipSelect a s).trace = s.trace ++ [.cs a] := rfl
@[simp] theorem chipSelect_rsp (a : Bool) (s : State) : (chipSelect a s).rsp = s.rsp := rfl
@[simp] theorem chipSelect_hostIn (a : Bool) (s : State) : (chipSelect a s).hostIn = s.hostIn := rfl
@[simp] theorem chipSelect_timerIn (a : Bool) (s : State) : (chipSelect a s).timerIn = s.timerIn := rfl
@[simp] theorem chipSelect_readyIn (a : Bool) (s : State) : (chipSelect a s).readyIn = s.readyIn := rfl
@[simp] theorem chipSelect_dev (a : Bool) (s : State) : (chipSelect a s).dev = s.dev.select := rfl
@[simp] theorem chipSelect_cfg (a : Bool) (s : State) : (chipSelect a s).cfg = s.cfg := rfl
@[simp] theorem chipSelect_rx (a : Bool) (s : State) : (chipSelect a s).rx = s.rx := rfl
@[simp] theorem chipSelect_waiting (a : Bool) (s : State) : (chipSelect a s).waiting = s.waiting := rfl
@[simp] theorem chipSelect_framer (a : Bool) (s : State) : (chipSelect a s).framer = s.framer := rfl
@[simp] theorem chipSelect_draws (a : Bool) (s : State) : (chipSelect a s).draws = s.draws := rfl

/-! `drawn` -/

@[simp] theorem drawn_phase (s : State) : (drawn s).phase = s.phase := rfl
@[simp] theorem drawn_busCfg (s : State) : (drawn s).busCfg = s.busCfg := rfl
@[simp] theorem drawn_cs (s : State) : (drawn s).cs = s.cs := rfl
@[simp] theorem drawn_rateMirror (s : State) : (drawn s).rateMirror = s.rateMirror := rfl
@[simp] theorem drawn_scycleMirror (s : State) : (drawn s).scycleMirror = s.scycleMirror := rfl
@[simp] theorem drawn_busy (s : State) : (drawn s).busy = s.busy := rfl
@[simp] theorem drawn_curReq (s : State) : (drawn s).curReq = s.curReq := rfl
@[simp] theorem drawn_opstep (s : State) : (drawn s).opstep = s.opstep := rfl
@[simp] theorem drawn_pollCount (s : State) : (drawn s).pollCount = s.pollCount := rfl
@[simp] theorem drawn_fault (s : State) : (drawn s).fault = s.fault := rfl
@[simp] theorem drawn_respValid (s : State) : (drawn s).respValid = s.respValid := rfl
@[simp] theorem drawn_respValue (s : State) : (drawn s).respValue = s.respValue := rfl
@[simp] theorem drawn_trace (s : State) : (drawn s).trace = s.trace := rfl
@[simp] theorem drawn_rsp (s : State) : (drawn s).rsp = s.rsp := rfl
@[simp] theorem drawn_hostIn (s : State) : (drawn s).hostIn = s.hostIn := rfl
@[simp] theorem drawn_timerIn (s : State) : (drawn s).timerIn = s.timerIn := rfl
@[simp] theorem drawn_readyIn (s : State) : (drawn s).readyIn = s.readyIn := rfl
@[simp] theorem drawn_dev (s : State) : (drawn s).dev = s.dev := rfl
@[simp] theorem drawn_cfg (s : State) : (drawn s).cfg = s.cfg := rfl
@[simp] theorem drawn_rx (s : State) : (drawn s).rx = s.rx := rfl
@[simp] theorem drawn_waiting (s : State) : (drawn s).waiting = s.waiting := rfl
@[simp] theorem drawn_framer (s : State) : (drawn s).framer = s.framer := rfl
@[simp] theorem drawn_draws (s : State) : (drawn s).draws = s.draws + 1 := rfl

/-! `accept` -/

@[simp] theorem accept_phase (w : ReqWord) (i : Instr) (s : State) : (accept w i s).phase = if i = .beginOp then .configuring else s.phase := rfl
@[simp] theorem accept_busCfg (w : ReqWord) (i : Instr) (s : State) : (accept w i s).busCfg = s.busCfg := rfl
@[simp] theorem accept_cs (w : ReqWord) (i : Instr) (s : State) : (accept w i s).cs = s.cs := rfl
@[simp] theorem accept_rateMirror (w : ReqWord) (i : Instr) (s : State) : (accept w i s).rateMirror = s.rateMirror := rfl
@[simp] theorem accept_scycleMirror (w : ReqWord) (i : Instr) (s : State) : (accept w i s).scycleMirror = s.scycleMirror := rfl
@[simp] theorem accept_busy (w : ReqWord) (i : Instr) (s : State) : (accept w i s).busy = true := rfl
@[simp] theorem accept_curReq (w : ReqWord) (i : Instr) (s : State) : (accept w i s).curReq = some w := rfl
@[simp] theorem accept_opstep (w : ReqWord) (i : Instr) (s : State) : (accept w i s).opstep = 0 := rfl
@[simp] theorem accept_pollCount (w : ReqWord) (i : Instr) (s : State) : (accept w i s).pollCount = 0 := rfl
@[simp] theorem accept_fault (w : ReqWord) (i : Instr) (s : State) : (accept w i s).fault = s.fault := rfl
@[simp] theorem accept_respValid (w : ReqWord) (i : Instr) (s : State) : (accept w i s).respValid = s.respValid := rfl
@[simp] theorem accept_respValue (w : ReqWord) (i : Instr) (s : State) : (accept w i s).respValue = s.respValue := rfl
@[simp] theorem accept_trace (w : ReqWord) (i : Instr) (s : State) : (accept w i s).trace = s.trace := rfl
@[simp] theorem accept_rsp (w : ReqWord) (i : Instr) (s : State) : (accept w i s).rsp = s.rsp := rfl
@[simp] theorem accept_hostIn (w : ReqWord) (i : Instr) (s : State) : (accept w i s).hostIn = s.hostIn := rfl
@[simp] theorem accept_timerIn (w : ReqWord) (i : Instr) (s : State) : (accept w i s).timerIn = s.timerIn := rfl
@[simp] theorem accept_readyIn (w : ReqWord) (i : Instr) (s : State) : (accept w i s).readyIn = s.readyIn := rfl
@[simp] theorem accept_dev (w : ReqWord) (i : Instr) (s : State) : (accept w i s).dev = s.dev := rfl
@[simp] theorem accept_cfg (w : ReqWord) (i : Instr) (s : State) : (accept w i s).cfg = s.cfg := rfl
@[simp] theorem accept_rx (w : ReqWord) (i : Instr) (s : State) : (accept w i s).rx = [] := rfl
@[simp] theorem accept_waiting (w : ReqWord) (i : Instr) (s : State) : (accept w i s).waiting = false := rfl
@[simp] theorem accept_framer (w : ReqWord) (i : Instr) (s : State) : (accept w i s).framer = none := rfl
@[simp] theorem accept_draws (w : ReqWord) (i : Instr) (s : State) : (accept w i s).draws = s.draws := rfl

/-! `respond` -/

@[simp] theorem respond_phase (v : Word32) (s : State) : (respond v s).phase = s.phase := rfl
@[simp] theorem respond_busCfg (v : Word32) (s : State) : (respond v s).busCfg = s.busCfg := rfl
@[simp] theorem respond_cs (v : Word32) (s : State) : (respond v s).cs = s.cs := rfl
@[simp] theorem respond_rateMirror (v : Word32) (s : State) : (respond v s).rateMirror = s.rateMirror := rfl
@[simp] theorem respond_scycleMirror (v : Word32) (s : State) : (respond v s).scycleMirror = s.scycleMirror := rfl
@[simp] theorem respond_busy (v : Word32) (s : State) : (respond v s).busy = false := rfl
@[simp] theorem respond_curReq (v : Word32) (s : State) : (respond v s).curReq = none := rfl
@[simp] theorem respond_opstep (v : Word32) (s : State) : (respond v s).opstep = 0 := rfl
@[simp] theorem respond_pollCount (v : Word32) (s : State) : (respond v s).pollCount = s.pollCount := rfl
@[simp] theorem respond_fault (v : Word32) (s : State) : (respond v s).fault = s.fault := rfl
@[simp] theorem respond_respValid (v : Word32) (s : State) : (respond v s).respValid = true := rfl
@[simp] theorem respond_respValue (v : Word32) (s : State) : (respond v s).respValue = v := rfl
@[simp] theorem respond_trace (v : Word32) (s : State) : (respond v s).trace = s.trace := rfl
@[simp] theorem respond_rsp (v : Word32) (s : State) : (respond v s).rsp = s.rsp ++ responsePairs s.curReq v := rfl
@[simp] theorem respond_hostIn (v : Word32) (s : State) : (respond v s).hostIn = s.hostIn := rfl
@[simp] theorem respond_timerIn (v : Word32) (s : State) : (respond v s).timerIn = s.timerIn := rfl
@[simp] theorem respond_readyIn (v : Word32) (s : State) : (respond v s).readyIn = s.readyIn := rfl
@[simp] theorem respond_dev (v : Word32) (s : State) : (respond v s).dev = s.dev := rfl
@[simp] theorem respond_cfg (v : Word32) (s : State) : (respond v s).cfg = s.cfg := rfl
@[simp] theorem respond_rx (v : Word32) (s : State) : (respond v s).rx = [] := rfl
@[simp] theorem respond_waiting (v : Word32) (s : State) : (respond v s).waiting = false := rfl
@[simp] theorem respond_framer (v : Word32) (s : State) : (respond v s).framer = none := rfl
@[simp] theorem respond_draws (v : Word32) (s : State) : (respond v s).draws = s.draws := rfl

/-! `beginStep` -/

@[simp] theorem beginStep_phase (s : State) : (beginStep s).phase = s.phase := rfl
@[simp] theorem beginStep_busCfg (s : State) : (beginStep s).busCfg = s.busCfg := rfl
@[simp] theorem beginStep_cs (s : State) : (beginStep s).cs = s.cs := rfl
@[simp] theorem beginStep_rateMirror (s : State) : (beginStep s).rateMirror = s.rateMirror := rfl
@[simp] theorem beginStep_scycleMirror (s : State) : (beginStep s).scycleMirror = s.scycleMirror := rfl
@[simp] theorem beginStep_busy (s : State) : (beginStep s).busy = s.busy := rfl
@[simp] theorem beginStep_curReq (s : State) : (beginStep s).curReq = s.curReq := rfl
@[simp] theorem beginStep_opstep (s : State) : (beginStep s).opstep = s.opstep := rfl
@[simp] theorem beginStep_pollCount (s : State) : (beginStep s).pollCount = s.pollCount := rfl
@[simp] theorem beginStep_fault (s : State) : (beginStep s).fault = s.fault := rfl
@[simp] theorem beginStep_respValid (s : State) : (beginStep s).respValid = false := rfl
@[simp] theorem beginStep_respValue (s : State) : (beginStep s).respValue = s.respValue := rfl
@[simp] theorem beginStep_trace (s : State) : (beginStep s).trace = s.trace := rfl
@[simp] theorem beginStep_rsp (s : State) : (beginStep s).rsp = s.rsp := rfl
@[simp] theorem beginStep_timerIn (s : State) : (beginStep s).timerIn = s.timerIn := rfl
@[simp] theorem beginStep_readyIn (s : State) : (beginStep s).readyIn = s.readyIn := rfl
@[simp] theorem beginStep_dev (s : State) : (beginStep s).dev = s.dev := rfl
@[simp] theorem beginStep_cfg (s : State) : (beginStep s).cfg = s.cfg := rfl
@[simp] theorem beginStep_rx (s : State) : (beginStep s).rx = s.rx := rfl
@[simp] theorem beginStep_waiting (s : State) : (beginStep s).waiting = s.waiting := rfl
@[simp] theorem beginStep_framer (s : State) : (beginStep s).framer = s.framer := rfl
@[simp] theorem beginStep_draws (s : State) : (beginStep s).draws = s.draws := rfl

/-! `blockReset` (R340, R341) -/

@[simp] theorem blockReset_phase (s : State) : (blockReset s).phase = .uninitialized := rfl
@[simp] theorem blockReset_busCfg (s : State) : (blockReset s).busCfg = none := rfl
@[simp] theorem blockReset_cs (s : State) : (blockReset s).cs = false := rfl
@[simp] theorem blockReset_rateMirror (s : State) : (blockReset s).rateMirror = none := rfl
@[simp] theorem blockReset_scycleMirror (s : State) : (blockReset s).scycleMirror = none := rfl
@[simp] theorem blockReset_busy (s : State) : (blockReset s).busy = false := rfl
@[simp] theorem blockReset_curReq (s : State) : (blockReset s).curReq = none := rfl
@[simp] theorem blockReset_opstep (s : State) : (blockReset s).opstep = 0 := rfl
@[simp] theorem blockReset_pollCount (s : State) : (blockReset s).pollCount = 0 := rfl
@[simp] theorem blockReset_fault (s : State) : (blockReset s).fault = 0 := rfl
@[simp] theorem blockReset_respValid (s : State) : (blockReset s).respValid = false := rfl
@[simp] theorem blockReset_respValue (s : State) : (blockReset s).respValue = 0 := rfl
@[simp] theorem blockReset_trace (s : State) : (blockReset s).trace = [] := rfl
@[simp] theorem blockReset_rsp (s : State) : (blockReset s).rsp = [] := rfl
@[simp] theorem blockReset_hostIn (s : State) : (blockReset s).hostIn = s.hostIn := rfl
@[simp] theorem blockReset_timerIn (s : State) : (blockReset s).timerIn = s.timerIn := rfl
@[simp] theorem blockReset_readyIn (s : State) : (blockReset s).readyIn = s.readyIn := rfl
@[simp] theorem blockReset_dev (s : State) : (blockReset s).dev = s.dev.select := rfl
@[simp] theorem blockReset_cfg (s : State) : (blockReset s).cfg = s.cfg := rfl
@[simp] theorem blockReset_rx (s : State) : (blockReset s).rx = [] := rfl
@[simp] theorem blockReset_waiting (s : State) : (blockReset s).waiting = false := rfl
@[simp] theorem blockReset_framer (s : State) : (blockReset s).framer = none := rfl
@[simp] theorem blockReset_draws (s : State) : (blockReset s).draws = s.draws := rfl

/-! `assign` -/

@[simp] theorem assign_phase_phase (s : State) (p : Phase) : (assign s (.phase p)).phase = p := rfl
@[simp] theorem assign_rateMirror_phase (s : State) (r : BitVec 3) : (assign s (.rateMirror r)).phase = s.phase := rfl
@[simp] theorem assign_scycleMirror_phase (s : State) (b : Bool) : (assign s (.scycleMirror b)).phase = s.phase := rfl
@[simp] theorem assign_busCfg (s : State) (a : Assign) : (assign s a).busCfg = s.busCfg := by cases a <;> rfl
@[simp] theorem assign_cs (s : State) (a : Assign) : (assign s a).cs = s.cs := by cases a <;> rfl
@[simp] theorem assign_phase_rateMirror (s : State) (p : Phase) : (assign s (.phase p)).rateMirror = s.rateMirror := rfl
@[simp] theorem assign_rateMirror_rateMirror (s : State) (r : BitVec 3) : (assign s (.rateMirror r)).rateMirror = some r := rfl
@[simp] theorem assign_scycleMirror_rateMirror (s : State) (b : Bool) : (assign s (.scycleMirror b)).rateMirror = s.rateMirror := rfl
@[simp] theorem assign_phase_scycleMirror (s : State) (p : Phase) : (assign s (.phase p)).scycleMirror = s.scycleMirror := rfl
@[simp] theorem assign_rateMirror_scycleMirror (s : State) (r : BitVec 3) : (assign s (.rateMirror r)).scycleMirror = s.scycleMirror := rfl
@[simp] theorem assign_scycleMirror_scycleMirror (s : State) (b : Bool) : (assign s (.scycleMirror b)).scycleMirror = some b := rfl
@[simp] theorem assign_busy (s : State) (a : Assign) : (assign s a).busy = s.busy := by cases a <;> rfl
@[simp] theorem assign_curReq (s : State) (a : Assign) : (assign s a).curReq = s.curReq := by cases a <;> rfl
@[simp] theorem assign_opstep (s : State) (a : Assign) : (assign s a).opstep = s.opstep := by cases a <;> rfl
@[simp] theorem assign_pollCount (s : State) (a : Assign) : (assign s a).pollCount = s.pollCount := by cases a <;> rfl
@[simp] theorem assign_fault (s : State) (a : Assign) : (assign s a).fault = s.fault := by cases a <;> rfl
@[simp] theorem assign_respValid (s : State) (a : Assign) : (assign s a).respValid = s.respValid := by cases a <;> rfl
@[simp] theorem assign_respValue (s : State) (a : Assign) : (assign s a).respValue = s.respValue := by cases a <;> rfl
@[simp] theorem assign_trace (s : State) (a : Assign) : (assign s a).trace = s.trace := by cases a <;> rfl
@[simp] theorem assign_rsp (s : State) (a : Assign) : (assign s a).rsp = s.rsp := by cases a <;> rfl
@[simp] theorem assign_hostIn (s : State) (a : Assign) : (assign s a).hostIn = s.hostIn := by cases a <;> rfl
@[simp] theorem assign_timerIn (s : State) (a : Assign) : (assign s a).timerIn = s.timerIn := by cases a <;> rfl
@[simp] theorem assign_readyIn (s : State) (a : Assign) : (assign s a).readyIn = s.readyIn := by cases a <;> rfl
@[simp] theorem assign_dev (s : State) (a : Assign) : (assign s a).dev = s.dev := by cases a <;> rfl
@[simp] theorem assign_cfg (s : State) (a : Assign) : (assign s a).cfg = s.cfg := by cases a <;> rfl
@[simp] theorem assign_rx (s : State) (a : Assign) : (assign s a).rx = s.rx := by cases a <;> rfl
@[simp] theorem assign_waiting (s : State) (a : Assign) : (assign s a).waiting = s.waiting := by cases a <;> rfl
@[simp] theorem assign_framer (s : State) (a : Assign) : (assign s a).framer = s.framer := by cases a <;> rfl
@[simp] theorem assign_draws (s : State) (a : Assign) : (assign s a).draws = s.draws := by cases a <;> rfl

@[simp] theorem assignAll_nil (s : State) : assignAll [] s = s := rfl

@[simp] theorem assignAll_cons (a : Assign) (as : List Assign) (s : State) :
    assignAll (a :: as) s = assignAll as (assign s a) := rfl

@[simp] theorem assignAll_busCfg (as : List Assign) (s : State) : (assignAll as s).busCfg = s.busCfg := by
  induction as generalizing s with
  | nil => rfl
  | cons a as ih => simp [ih]
@[simp] theorem assignAll_cs (as : List Assign) (s : State) : (assignAll as s).cs = s.cs := by
  induction as generalizing s with
  | nil => rfl
  | cons a as ih => simp [ih]
@[simp] theorem assignAll_busy (as : List Assign) (s : State) : (assignAll as s).busy = s.busy := by
  induction as generalizing s with
  | nil => rfl
  | cons a as ih => simp [ih]
@[simp] theorem assignAll_curReq (as : List Assign) (s : State) : (assignAll as s).curReq = s.curReq := by
  induction as generalizing s with
  | nil => rfl
  | cons a as ih => simp [ih]
@[simp] theorem assignAll_opstep (as : List Assign) (s : State) : (assignAll as s).opstep = s.opstep := by
  induction as generalizing s with
  | nil => rfl
  | cons a as ih => simp [ih]
@[simp] theorem assignAll_pollCount (as : List Assign) (s : State) : (assignAll as s).pollCount = s.pollCount := by
  induction as generalizing s with
  | nil => rfl
  | cons a as ih => simp [ih]
@[simp] theorem assignAll_fault (as : List Assign) (s : State) : (assignAll as s).fault = s.fault := by
  induction as generalizing s with
  | nil => rfl
  | cons a as ih => simp [ih]
@[simp] theorem assignAll_respValid (as : List Assign) (s : State) : (assignAll as s).respValid = s.respValid := by
  induction as generalizing s with
  | nil => rfl
  | cons a as ih => simp [ih]
@[simp] theorem assignAll_respValue (as : List Assign) (s : State) : (assignAll as s).respValue = s.respValue := by
  induction as generalizing s with
  | nil => rfl
  | cons a as ih => simp [ih]
@[simp] theorem assignAll_trace (as : List Assign) (s : State) : (assignAll as s).trace = s.trace := by
  induction as generalizing s with
  | nil => rfl
  | cons a as ih => simp [ih]
@[simp] theorem assignAll_rsp (as : List Assign) (s : State) : (assignAll as s).rsp = s.rsp := by
  induction as generalizing s with
  | nil => rfl
  | cons a as ih => simp [ih]
@[simp] theorem assignAll_hostIn (as : List Assign) (s : State) : (assignAll as s).hostIn = s.hostIn := by
  induction as generalizing s with
  | nil => rfl
  | cons a as ih => simp [ih]
@[simp] theorem assignAll_timerIn (as : List Assign) (s : State) : (assignAll as s).timerIn = s.timerIn := by
  induction as generalizing s with
  | nil => rfl
  | cons a as ih => simp [ih]
@[simp] theorem assignAll_readyIn (as : List Assign) (s : State) : (assignAll as s).readyIn = s.readyIn := by
  induction as generalizing s with
  | nil => rfl
  | cons a as ih => simp [ih]
@[simp] theorem assignAll_dev (as : List Assign) (s : State) : (assignAll as s).dev = s.dev := by
  induction as generalizing s with
  | nil => rfl
  | cons a as ih => simp [ih]
@[simp] theorem assignAll_cfg (as : List Assign) (s : State) : (assignAll as s).cfg = s.cfg := by
  induction as generalizing s with
  | nil => rfl
  | cons a as ih => simp [ih]
@[simp] theorem assignAll_rx (as : List Assign) (s : State) : (assignAll as s).rx = s.rx := by
  induction as generalizing s with
  | nil => rfl
  | cons a as ih => simp [ih]
@[simp] theorem assignAll_waiting (as : List Assign) (s : State) : (assignAll as s).waiting = s.waiting := by
  induction as generalizing s with
  | nil => rfl
  | cons a as ih => simp [ih]
@[simp] theorem assignAll_framer (as : List Assign) (s : State) : (assignAll as s).framer = s.framer := by
  induction as generalizing s with
  | nil => rfl
  | cons a as ih => simp [ih]
@[simp] theorem assignAll_draws (as : List Assign) (s : State) : (assignAll as s).draws = s.draws := by
  induction as generalizing s with
  | nil => rfl
  | cons a as ih => simp [ih]

end Sys2Proof.Machine
end

