-- ==== Sys2Proof/Laws/Ops.lean ====
section
/-! SUPPORT. One lemma per shared operation that says everything it can do; proofs cite these instead of unfolding the
operations. -/

namespace Sys2Proof.Machine

/-! ## The Device -/

/-- Asking the Device changes nothing but the Device and the count of free values. -/
theorem deviceAnswer_spec (o : Byte) (s : State) :
    ∃ d n, (deviceAnswer o s).2 = { s with dev := d, draws := n } := by
  unfold deviceAnswer
  split
  · exact ⟨_, s.draws, rfl⟩
  · exact ⟨s.dev, _, rfl⟩
  · exact ⟨_, s.draws, rfl⟩

/-- An exchange whose byte is discarded: one event. -/
theorem xferDiscard_spec (o : Byte) (s : State) :
    ∃ i d n, xferDiscard o s = { s with trace := s.trace ++ [.xfer o i], dev := d, draws := n } := by
  obtain ⟨d, n, h⟩ := deviceAnswer_spec o s
  exact ⟨(deviceAnswer o s).1, d, n, by rw [xferDiscard, h]; rfl⟩

/-- An exchange whose byte is kept: one event, and the byte goes to `rx`. -/
theorem xferKeep_spec (s : State) :
    ∃ i d n, xferKeep s =
      { s with trace := s.trace ++ [.xfer s.cfg.dummy i], dev := d, draws := n, rx := s.rx ++ [i] } := by
  obtain ⟨d, n, h⟩ := deviceAnswer_spec s.cfg.dummy s
  exact ⟨(deviceAnswer s.cfg.dummy s).1, d, n, by simp only [xferKeep]; rw [h]; rfl⟩

/-- The byte a Device answers when `n` free values have been drawn. -/
def answerOf (p : Params) (d : Device) (n : Nat) (o : Byte) : Byte :=
  match d with
  | .oracle (i :: _) => i
  | .oracle [] => Config.freeByte n
  | .ref r => (RefDev.exchange p r o).1

/-- The Device after an exchange. -/
def deviceAfter (p : Params) (d : Device) (o : Byte) : Device :=
  match d with
  | .oracle (_ :: rest) => .oracle rest
  | .oracle [] => .oracle []
  | .ref r => .ref (RefDev.exchange p r o).2

/-- The count of free values after an exchange. -/
def drawsAfter (d : Device) (n : Nat) : Nat :=
  match d with
  | .oracle [] => n + 1
  | .oracle (_ :: _) | .ref _ => n

/-- What the Device answers depends on the Device, the count of free values and the parameters only. -/
theorem deviceAnswer_eq (o : Byte) (s : State) :
    deviceAnswer o s = (answerOf s.cfg s.dev s.draws o,
      { s with dev := deviceAfter s.cfg s.dev o, draws := drawsAfter s.dev s.draws }) := by
  rcases s with ⟨⟩
  rename_i dev _ _ _ _ _
  rcases dev with ⟨_ | ⟨_, _⟩⟩ | _ <;> rfl

theorem xferDiscard_eq (o : Byte) (s : State) :
    xferDiscard o s = { s with
      trace := s.trace ++ [.xfer o (answerOf s.cfg s.dev s.draws o)]
      dev   := deviceAfter s.cfg s.dev o
      draws := drawsAfter s.dev s.draws } := by
  rw [xferDiscard, deviceAnswer_eq]; rfl

theorem xferKeep_eq (s : State) :
    xferKeep s = { s with
      trace := s.trace ++ [.xfer s.cfg.dummy (answerOf s.cfg s.dev s.draws s.cfg.dummy)]
      dev   := deviceAfter s.cfg s.dev s.cfg.dummy
      draws := drawsAfter s.dev s.draws
      rx    := s.rx ++ [answerOf s.cfg s.dev s.draws s.cfg.dummy] } := by
  simp only [xferKeep]; rw [deviceAnswer_eq]; rfl

/-- A ready sample: one event with the level it answers. -/
theorem sampleReady_spec (s : State) :
    ∃ ls n, (sampleReady s).2 =
      { s with trace := s.trace ++ [.ready (sampleReady s).1], readyIn := ls, draws := n } := by
  unfold sampleReady
  split
  · exact ⟨_, s.draws, rfl⟩
  · rename_i h; exact ⟨s.readyIn, _, rfl⟩

/-! ## Fault entry -/

/-- Releasing chip select: nothing if it is deasserted, one event otherwise. -/
theorem releaseCs_spec (s : State) :
    releaseCs s = { s with
      cs    := false
      trace := s.trace ++ (if s.cs then [.cs false] else [])
      dev   := if s.cs then s.dev.select else s.dev } := by
  unfold releaseCs
  obtain ⟨⟩ := s
  rename_i cs _ _ _ _ _ _ _ _ _ _ _ _ _ _ _ _ _ _ _ _
  cases cs <;> simp [chipSelect, emit]

/-- Fault entry (R305). -/
theorem raise_spec (f : BlockFault) (s : State) :
    raise f s = { s with
      fault     := f.code
      cs        := false
      trace     := s.trace ++ (if s.cs then [.cs false] else [])
      dev       := if s.cs then s.dev.select else s.dev
      busy      := false
      curReq    := f.recorded s.curReq
      respValid := false
      rx        := []
      waiting   := false
      framer    := none } := by
  rw [raise, releaseCs_spec]

/-- A fault code is 1 to 4 (R301). -/
theorem BlockFault.code_range (f : BlockFault) : f.code ≠ 0 ∧ f.code.toNat ≤ 4 := by cases f <;> simp [code]

/-! ## Presentation -/

/-- The request port (R170, R307): accepted, or one of three faults. -/
theorem present_spec (w : ReqWord) (s : State) :
    (s.busy = true ∧ present w s = raise (.requestWhileBusy w) s) ∨
    (s.busy = false ∧ (∃ e, decodeRequest w = .error e) ∧ present w s = raise (.illegalRequest w) s) ∨
    (s.busy = false ∧ (∃ i, decodeRequest w = .ok i ∧ s.phase = .uninitialized ∧ i ≠ .beginOp) ∧
      present w s = raise (.notInitialized w) s) ∨
    (s.busy = false ∧ ∃ i, decodeRequest w = .ok i ∧ (s.phase = .uninitialized → i = .beginOp) ∧
      present w s = accept w i s) := by
  unfold present
  cases hb : s.busy
  · cases hd : decodeRequest w with
    | error e => exact .inr (.inl ⟨rfl, ⟨e, rfl⟩, by simp⟩)
    | ok i =>
      by_cases h : s.phase = .uninitialized ∧ i ≠ .beginOp
      · exact .inr (.inr (.inl ⟨rfl, ⟨i, rfl, h.1, h.2⟩, by simp [h]⟩))
      · refine .inr (.inr (.inr ⟨rfl, i, rfl, fun hp => ?_, by simp [h]⟩))
        by_contra hi
        exact h ⟨hp, hi⟩
  · exact .inl ⟨rfl, by simp⟩

/-! ## Scripts -/

/-- Assignments write the phase and the mirrors only. -/
theorem assignAll_spec (as : List Assign) (s : State) :
    ∃ p r c, assignAll as s = { s with phase := p, rateMirror := r, scycleMirror := c } := by
  induction as generalizing s with
  | nil => exact ⟨_, _, _, rfl⟩
  | cons a as ih => cases a <;> exact ih _

/-- What a primitive's completion does: `opstep` and the assignments. -/
theorem complete_spec (as : List Assign) (s : State) :
    ∃ p r c, complete as s =
      { s with opstep := s.opstep + 1, phase := p, rateMirror := r, scycleMirror := c } :=
  assignAll_spec as (advance s)

/-- A delay that is done (R40). -/
theorem delay_done {e : BusEvent} {as : List Assign} {s : State} (h : timerReport s = .done) :
    delay e as s = .next (complete as { s with
      trace   := s.trace ++ (if s.waiting then [] else [e])
      timerIn := s.timerIn.tail
      waiting := false }) := by
  cases hw : s.waiting <;> simp [delay, h, hw, emit]

/-- A delay that stalls (R40). -/
theorem delay_notYet {e : BusEvent} {as : List Assign} {s : State} (h : timerReport s = .notYet) :
    delay e as s = .next { s with
      trace   := s.trace ++ (if s.waiting then [] else [e])
      timerIn := s.timerIn.tail
      waiting := true } := by
  cases hw : s.waiting <;> simp [delay, h, hw, emit]

/-- A delay whose timer never completes (R309, U13). -/
theorem delay_never {e : BusEvent} {as : List Assign} {s : State} (h : timerReport s = .never) :
    delay e as s = .fault .timerNeverCompletes := by
  simp [delay, h]

/-- The next step of a script that has not ended is its next primitive. -/
theorem runScript_prim {script : List Micro} {final : List Assign} {v : Word32} {s : State} {m : Micro}
    (h : script[s.opstep]? = some m) : runScript script final v s = microStep m s := by
  simp [runScript, h]

/-- The last step of a script is its `respond` (R171). -/
theorem runScript_respond {script : List Micro} {final : List Assign} {v : Word32} {s : State}
    (h : s.opstep = script.length) : runScript script final v s = .next (respond v (assignAll final s)) := by
  simp [runScript, h]

/-- What a step of a script can be. -/
theorem runScript_cases (script : List Micro) (final : List Assign) (v : Word32) (s : State) :
    (∃ m, script[s.opstep]? = some m ∧ runScript script final v s = microStep m s) ∨
    (s.opstep = script.length ∧ runScript script final v s = .next (respond v (assignAll final s))) ∨
    (script.length < s.opstep ∧ runScript script final v s = .fault .offScript) := by
  rcases Nat.lt_trichotomy s.opstep script.length with h | h | h
  · exact .inl ⟨_, List.getElem?_eq_getElem h, by simp [runScript, h]⟩
  · exact .inr (.inl ⟨h, runScript_respond h⟩)
  · exact .inr (.inr ⟨h, by simp [runScript, Nat.le_of_lt h, Nat.ne_of_gt h]⟩)

/-! ## Steps -/

/-- What a step can be: a reset, a halted Block, a presentation, the next step of the instruction in flight, or
waiting. -/
theorem step_cases (s : State) :
    (resetNow s = true ∧ step s = .next (blockReset (beginStep s))) ∨
    (resetNow s = false ∧ s.fault ≠ 0 ∧ step s = .fault .halted) ∨
    (resetNow s = false ∧ s.fault = 0 ∧ ∃ w, requestNow s = some w ∧ step s = .next (present w (beginStep s))) ∨
    (resetNow s = false ∧ s.fault = 0 ∧ requestNow s = none ∧ s.busy = true ∧
      ((∃ i, inFlight s = some i ∧ step s = exec i (beginStep s)) ∨
       (inFlight s = none ∧ step s = .fault .nothingInFlight))) ∨
    (resetNow s = false ∧ s.fault = 0 ∧ requestNow s = none ∧ s.busy = false ∧ step s = .next (beginStep s)) := by
  unfold step
  cases hr : resetNow s
  · by_cases hf : s.fault = 0
    · cases hq : requestNow s with
      | some w => simp [hf]
      | none =>
        cases hb : s.busy
        · simp [hf]
        · cases hi : inFlight s <;> simp [hf]
    · exact .inr (.inl ⟨rfl, hf, by rw [if_neg (by simp), if_pos hf]⟩)
  · simp

end Sys2Proof.Machine
end

