-- ==== Sys2Proof/Laws/Exec.lean ====
section
/-! SUPPORT. What `exec` runs: for every instruction one script, whose beats are its plan, whose assignments are those
the rule of the instruction allows, and whose configuration, teardown and ready events stand where the rule puts them.
Proofs over all instructions cite `exec_runs` instead of unfolding the meanings. -/

namespace Sys2Proof.Machine

/-- The assignments the script of `i` may make beside its primitive at position `k` (R160, R161, R163 to R165, R167,
R222). -/
def Permits (p : Params) (i : Instr) (k : Nat) (a : Assign) : Prop :=
  match i, a with
  | .beginOp, .phase q => (k = 0 ∧ q = .configuring) ∨ (k = 16 ∧ q = .calibrated) ∨ (k = 19 ∧ q = .converting)
  | .beginOp, .rateMirror r => k = 19 ∧ r = BitVec.ofNat 3 p.chip.defaultRate
  | .selfCal, .phase q | .sysOffsetCal, .phase q | .sysGainCal, .phase q => k = 3 ∧ q = .calibrated
  | .setRate _, .phase q => k = 2 ∧ q = .converting
  | .setRate x, .rateMirror r => k = 0 ∧ r = BitVec.ofNat 3 x
  | .setConvMode b, .scycleMirror c => k = 0 ∧ c = b
  | _, _ => False

/-- `exec i s` runs this script. -/
structure Runs (i : Instr) (s : State) (script : List Micro) (final : List Assign) (v : Word32) (s' : State) :
    Prop where
  exec_eq  : exec i s = runScript script final v s'
  state    : s' = s ∨ s' = drawn s
  beats    : script.map (fun m => m.prim.beat) = plan i s.pollCount
  assigns  : ∀ (k : Nat) m, script[k]? = some m → ∀ a ∈ m.before ++ m.after, Permits s.cfg i k a
  final    : final = if i = .endOp then [.phase .uninitialized] else []
  cfgBus   : ∀ (k : Nat) m, script[k]? = some m → (m.prim = .cfgBus ↔ i = .beginOp ∧ k = 0)
  teardown : ∀ (k : Nat) m, script[k]? = some m → (m.prim = .teardown ↔ i = .endOp ∧ k = 3)
  sample   : ∀ (k : Nat) m, script[k]? = some m → m.prim = .sample → i = .readOp ∧ k ≤ 2 * s.pollCount
  delays   : ∀ (k : Nat) m, script[k]? = some m → (∃ n, m.prim = .delayUs n ∨ m.prim = .delayMs n) → m.before = []

/-- A primitive of the framer with no assignment beside it. -/
def Micro.Plain (m : Micro) : Prop :=
  m.before = [] ∧ m.after = [] ∧ m.prim ≠ .cfgBus ∧ m.prim ≠ .teardown ∧ m.prim ≠ .sample

theorem readByte_plain (p : Params) (addr : Byte) : ∀ m ∈ readByte p addr, m.Plain := by
  simp [readByte, Prim.alone, Micro.Plain]

theorem readTriple_plain (p : Params) (addr : Byte) : ∀ m ∈ readTriple p addr, m.Plain := by
  simp [readTriple, Prim.alone, Micro.Plain]

theorem writeByte_plain (p : Params) (addr v : Byte) : ∀ m ∈ writeByte p addr v, m.Plain := by
  simp [writeByte, Prim.alone, Micro.Plain]

theorem writeTriple_plain (p : Params) (addr : Byte) (v : Word24) : ∀ m ∈ writeTriple p addr v, m.Plain := by
  simp [writeTriple, split24, Prim.alone, Micro.Plain]

theorem sendCommand_plain (p : Params) (op : Byte) : ∀ m ∈ sendCommand p op, m.Plain := by
  simp [sendCommand, Prim.alone, Micro.Plain]

theorem readByte_beats (p : Params) (addr : Byte) : (readByte p addr).map (fun m => m.prim.beat) = planReadByte := rfl

theorem readTriple_beats (p : Params) (addr : Byte) : (readTriple p addr).map (fun m => m.prim.beat) = planReadTriple :=
  rfl

theorem writeByte_beats (p : Params) (addr v : Byte) :
    (writeByte p addr v).map (fun m => m.prim.beat) = planWriteByte :=
  rfl

theorem writeTriple_beats (p : Params) (addr : Byte) (v : Word24) :
    (writeTriple p addr v).map (fun m => m.prim.beat) = planWriteTriple := rfl

theorem sendCommand_beats (p : Params) (op : Byte) : (sendCommand p op).map (fun m => m.prim.beat) = planCommand := rfl

/-- A script of plain primitives. -/
theorem Runs.plain {i : Instr} {s : State} {script : List Micro} {v : Word32} {s' : State}
    (h : exec i s = runScript script [] v s') (hs : s' = s ∨ s' = drawn s) (hp : ∀ m ∈ script, m.Plain)
    (hb : script.map (fun m => m.prim.beat) = plan i s.pollCount) (hi : i ≠ .beginOp ∧ i ≠ .endOp) :
    Runs i s script [] v s' where
  exec_eq := h
  state := hs
  beats := hb
  assigns k m hk a ha := by
    have := hp m (List.mem_of_getElem? hk)
    simp [this.1, this.2.1] at ha
  final := by simp [hi.2]
  cfgBus k m hk := by simp [(hp m (List.mem_of_getElem? hk)).2.2.1, hi.1]
  teardown k m hk := by simp [(hp m (List.mem_of_getElem? hk)).2.2.2.1, hi.2]
  sample k m hk h := absurd h (hp m (List.mem_of_getElem? hk)).2.2.2.2
  delays k m hk _ := (hp m (List.mem_of_getElem? hk)).1

theorem runs_readByte {i : Instr} {s : State} {addr : Byte} {v : Word32}
    (h : exec i s = runScript (readByte s.cfg addr) [] v s) (hb : planReadByte = plan i s.pollCount)
    (hi : i ≠ .beginOp ∧ i ≠ .endOp) : ∃ script final v s', Runs i s script final v s' :=
  ⟨_, _, _, _, .plain h (.inl rfl) (readByte_plain _ _) hb hi⟩

theorem runs_readTriple {i : Instr} {s : State} {addr : Byte} {v : Word32}
    (h : exec i s = runScript (readTriple s.cfg addr) [] v s) (hb : planReadTriple = plan i s.pollCount)
    (hi : i ≠ .beginOp ∧ i ≠ .endOp) : ∃ script final v s', Runs i s script final v s' :=
  ⟨_, _, _, _, .plain h (.inl rfl) (readTriple_plain _ _) hb hi⟩

theorem runs_writeByte {i : Instr} {s : State} {addr d : Byte} {v : Word32}
    (h : exec i s = runScript (writeByte s.cfg addr d) [] v s) (hb : planWriteByte = plan i s.pollCount)
    (hi : i ≠ .beginOp ∧ i ≠ .endOp) : ∃ script final v s', Runs i s script final v s' :=
  ⟨_, _, _, _, .plain h (.inl rfl) (writeByte_plain _ _ _) hb hi⟩

theorem runs_writeTriple {i : Instr} {s : State} {addr : Byte} {d : Word24} {v : Word32}
    (h : exec i s = runScript (writeTriple s.cfg addr d) [] v s) (hb : planWriteTriple = plan i s.pollCount)
    (hi : i ≠ .beginOp ∧ i ≠ .endOp) : ∃ script final v s', Runs i s script final v s' :=
  ⟨_, _, _, _, .plain h (.inl rfl) (writeTriple_plain _ _ _) hb hi⟩

theorem runs_sendCommand {i : Instr} {s : State} {op : Byte} {v : Word32}
    (h : exec i s = runScript (sendCommand s.cfg op) [] v s) (hb : planCommand = plan i s.pollCount)
    (hi : i ≠ .beginOp ∧ i ≠ .endOp) : ∃ script final v s', Runs i s script final v s' :=
  ⟨_, _, _, _, .plain h (.inl rfl) (sendCommand_plain _ _) hb hi⟩

theorem runs_modify {i : Instr} {s : State} {addr d : Byte} {v : Word32}
    (h : exec i s = runScript (readByte s.cfg addr ++ writeByte s.cfg addr d) [] v s)
    (hb : planModify = plan i s.pollCount) (hi : i ≠ .beginOp ∧ i ≠ .endOp) :
    ∃ script final v s', Runs i s script final v s' := by
  refine ⟨_, _, _, _, .plain h (.inl rfl) ?_ hb hi⟩
  intro m hm
  rcases List.mem_append.mp hm with hm | hm
  · exact readByte_plain _ _ m hm
  · exact writeByte_plain _ _ _ m hm

/-- A property of every entry of a list, by position. -/
theorem getElem?_cons_iff {α : Type} (a : α) (l : List α) (P : Nat → α → Prop) :
    (∀ (k : Nat) m, (a :: l)[k]? = some m → P k m) ↔ P 0 a ∧ ∀ (k : Nat) m, l[k]? = some m → P (k + 1) m := by
  constructor
  · exact fun h => ⟨h 0 a rfl, fun k m hk => h (k + 1) m hk⟩
  · rintro ⟨h0, h⟩ (_ | k) m hk
    · simp at hk; exact hk ▸ h0
    · exact h k m hk

/-- `read`'s script with one more poll counted. -/
theorem readScript_succ (p : Params) (n : Nat) :
    readScript p (n + 1) = Prim.sample.alone :: (Prim.delayUs p.chip.pollUs).alone :: readScript p n := by
  simp [readScript, List.replicate_succ]

/-- Where `read` samples the ready line. -/
theorem readScript_prims (p : Params) (n : Nat) : ∀ (k : Nat) (m : Micro), (readScript p n)[k]? = some m →
    m.before = [] ∧ m.after = [] ∧ m.prim ≠ .cfgBus ∧ m.prim ≠ .teardown ∧ (m.prim = .sample → k ≤ 2 * n) := by
  induction n with
  | zero =>
    simp only [readScript, readTriple, List.replicate, List.flatten_nil, List.nil_append, List.cons_append]
    simp [getElem?_cons_iff, Prim.alone]
  | succ n ih =>
    rw [readScript_succ]
    simp only [getElem?_cons_iff]
    refine ⟨by simp [Prim.alone], by simp [Prim.alone], fun k m hk => ?_⟩
    obtain ⟨h1, h2, h3, h4, h5⟩ := ih k m hk
    exact ⟨h1, h2, h3, h4, fun h => by have := h5 h; omega⟩

theorem readScript_beats (p : Params) (n : Nat) :
    (readScript p n).map (fun m => m.prim.beat) = plan .readOp n := by
  simp [readScript, plan, readTriple, planReadTriple, Prim.alone, Prim.beat, List.map_flatten]

theorem runs_read (s : State) : ∃ script final v s', Runs .readOp s script final v s' :=
  ⟨_, _, _, _, {
    exec_eq := rfl
    state := .inl rfl
    beats := readScript_beats _ _
    assigns := by
      intro k m hk a ha
      have := readScript_prims _ _ k m hk
      simp [this.1, this.2.1] at ha
    final := by simp
    cfgBus := fun k m hk => by simp [(readScript_prims _ _ k m hk).2.2.1]
    teardown := fun k m hk => by simp [(readScript_prims _ _ k m hk).2.2.2.1]
    sample := fun k m hk h => ⟨rfl, (readScript_prims _ _ k m hk).2.2.2.2 h⟩
    delays := fun k m hk _ => (readScript_prims _ _ k m hk).1 }⟩

theorem runs_begin (s : State) : ∃ script final v s', Runs .beginOp s script final v s' := by
  refine ⟨_, _, _, _, ⟨rfl, .inl rfl, rfl, ?_, by simp, ?_, ?_, ?_, ?_⟩⟩ <;>
    simp [beginScript, calibration, endWith, writeByte, sendCommand, Prim.alone, getElem?_cons_iff, Permits,
      rateMirrorOf]

theorem runs_end (s : State) : ∃ script final v s', Runs .endOp s script final v s' := by
  refine ⟨_, _, _, _, ⟨rfl, .inl rfl, rfl, ?_, by simp, ?_, ?_, ?_, ?_⟩⟩ <;>
    simp [sendCommand, Prim.alone, getElem?_cons_iff]

theorem runs_calibration {i : Instr} {s : State} {op : Byte} {ms : Nat}
    (h : exec i s = runScript (calibration s.cfg op ms) [] 0 s) (hi : i = .selfCal ∨ i = .sysOffsetCal ∨ i = .sysGainCal) :
    ∃ script final v s', Runs i s script final v s' := by
  refine ⟨_, _, _, _, ⟨h, .inl rfl, ?_, ?_, by rcases hi with rfl | rfl | rfl <;> simp, ?_, ?_, ?_, ?_⟩⟩ <;>
    rcases hi with rfl | rfl | rfl <;> simp [calibration, sendCommand, Prim.alone, getElem?_cons_iff, Permits, plan, planCommand, Prim.beat]

theorem runs_setRate (a : Nat) (s : State) : ∃ script final v s', Runs (.setRate a) s script final v s' := by
  refine ⟨_, _, _, _, ⟨rfl, .inl rfl, rfl, ?_, by simp, ?_, ?_, ?_, ?_⟩⟩ <;>
    simp [startWith, endWith, sendCommand, Prim.alone, getElem?_cons_iff, Permits, rateMirrorOf]

theorem runs_setConvMode (b : Bool) (s : State) : ∃ script final v s', Runs (.setConvMode b) s script final v s' := by
  refine ⟨_, _, _, _, ⟨rfl, .inl rfl, rfl, ?_, by simp, ?_, ?_, ?_, ?_⟩⟩ <;>
    simp [startWith, setBit, readByte, writeByte, Prim.alone, getElem?_cons_iff, Permits]

/-- An instruction with no primitive at all (R244). -/
theorem runs_nothing {i : Instr} {s : State} {v : Word32} {s' : State} (h : exec i s = runScript [] [] v s')
    (hs : s' = s ∨ s' = drawn s) (hb : plan i s.pollCount = []) (hi : i ≠ .beginOp ∧ i ≠ .endOp) :
    ∃ script final v s', Runs i s script final v s' :=
  ⟨_, _, _, _, .plain h hs (by simp) (by simp [hb]) hi⟩

theorem runs_setPin {i : Instr} {s : State} {f : Field} {pin : Nat} {b : Bool} (h : exec i s = runSetPin f pin b s)
    (hb : plan i s.pollCount = if pin < 4 then planModify else []) (hi : i ≠ .beginOp ∧ i ≠ .endOp) :
    ∃ script final v s', Runs i s script final v s' := by
  by_cases hp : pin < 4
  · have e : exec i s = runSetBit (pinField f pin) b s := by rw [h]; simp only [runSetPin, pinInRange, nGpio, hp]; rfl
    exact runs_modify e (by simp [hb, hp]) hi
  · exact runs_nothing (by rw [h]; simp only [runSetPin, pinInRange, nGpio, hp]; rfl) (.inl rfl) (by simp [hb, hp]) hi

theorem runs_getPin {i : Instr} {s : State} {f : Field} {pin : Nat} (h : exec i s = runGetPin f pin s)
    (hb : plan i s.pollCount = if pin < 4 then planReadByte else []) (hi : i ≠ .beginOp ∧ i ≠ .endOp) :
    ∃ script final v s', Runs i s script final v s' := by
  by_cases hp : pin < 4
  · have e : exec i s = runGetField (pinField f pin) s := by rw [h]; simp only [runGetPin, pinInRange, nGpio, hp]; rfl
    exact runs_readByte e (by simp [hb, hp]) hi
  · exact runs_nothing (by rw [h]; simp only [runGetPin, pinInRange, nGpio, hp]; rfl) (.inr rfl) (by simp [hb, hp]) hi

/-- Every instruction runs one script, and this is everything the script may do. -/
theorem exec_runs (i : Instr) (s : State) : ∃ script final v s', Runs i s script final v s' := by
  cases i
  case beginOp => exact runs_begin s
  case endOp => exact runs_end s
  case readOp => exact runs_read s
  case selfCal => exact runs_calibration rfl (by simp)
  case sysOffsetCal => exact runs_calibration rfl (by simp)
  case sysGainCal => exact runs_calibration rfl (by simp)
  case setRate a => exact runs_setRate a s
  case setConvMode b => exact runs_setConvMode b s
  case setGpioDir | setGpioValue => exact runs_setPin rfl rfl (by simp)
  case getGpioDir | getGpioValue => exact runs_getPin rfl rfl (by simp)
  case cmdRate | cmdPowerDown | cmdSelfCal | cmdSysOffCal | cmdSysGainCal => exact runs_sendCommand rfl rfl (by simp)
  case getSOC | getSGC | getSCOC | getSCGC | rframeData | rframeSoc | rframeSgc | rframeScoc | rframeScgc =>
    exact runs_readTriple rfl rfl (by simp)
  case wframeCtrl1 | wframeCtrl2 | wframeCtrl3 => exact runs_writeByte rfl rfl (by simp)
  case setSOC | setSGC | setSCOC | setSCGC | wframeSoc | wframeSgc | wframeScoc | wframeScgc =>
    exact runs_writeTriple rfl rfl (by simp)
  case getReady | getMeasStat | getUnderRange | getOverRange | getRate | getSysGainOverRange =>
    exact runs_readByte (addr := s.cfg.addr _) rfl rfl (by simp)
  case getLineFreq | getInputRange | getClockSource | getRefBuf | getSigBuf | getFormat | getConvMode =>
    exact runs_readByte (addr := s.cfg.addr _) rfl rfl (by simp)
  case getGain | getNoSysGainCal | getNoSysOffsetCal | getNoSelfGainCal | getNoSelfOffsetCal =>
    exact runs_readByte (addr := s.cfg.addr _) rfl rfl (by simp)
  case rframeStat | rframeCtrl1 | rframeCtrl2 | rframeCtrl3 => exact runs_readByte rfl rfl (by simp)
  case setLineFreq | setInputRange | setClockSource | setRefBuf | setSigBuf | setFormat =>
    exact runs_modify (addr := s.cfg.addr _) rfl rfl (by simp)
  case setGain | setNoSysGainCal | setNoSysOffsetCal | setNoSelfGainCal | setNoSelfOffsetCal =>
    exact runs_modify (addr := s.cfg.addr _) rfl rfl (by simp)


/-! The fields that assignments and completion leave alone. -/

@[simp] theorem complete_busCfg (as : List Assign) (s : State) : (complete as s).busCfg = s.busCfg := by
  rw [complete, assignAll_busCfg]; rfl

@[simp] theorem complete_cs (as : List Assign) (s : State) : (complete as s).cs = s.cs := by
  rw [complete, assignAll_cs]; rfl

@[simp] theorem complete_busy (as : List Assign) (s : State) : (complete as s).busy = s.busy := by
  rw [complete, assignAll_busy]; rfl

@[simp] theorem complete_curReq (as : List Assign) (s : State) : (complete as s).curReq = s.curReq := by
  rw [complete, assignAll_curReq]; rfl

@[simp] theorem complete_pollCount (as : List Assign) (s : State) : (complete as s).pollCount = s.pollCount := by
  rw [complete, assignAll_pollCount]; rfl

@[simp] theorem complete_fault (as : List Assign) (s : State) : (complete as s).fault = s.fault := by
  rw [complete, assignAll_fault]; rfl

@[simp] theorem complete_respValid (as : List Assign) (s : State) : (complete as s).respValid = s.respValid := by
  rw [complete, assignAll_respValid]; rfl

@[simp] theorem complete_respValue (as : List Assign) (s : State) : (complete as s).respValue = s.respValue := by
  rw [complete, assignAll_respValue]; rfl

@[simp] theorem complete_trace (as : List Assign) (s : State) : (complete as s).trace = s.trace := by
  rw [complete, assignAll_trace]; rfl

@[simp] theorem complete_rsp (as : List Assign) (s : State) : (complete as s).rsp = s.rsp := by
  rw [complete, assignAll_rsp]; rfl

@[simp] theorem complete_hostIn (as : List Assign) (s : State) : (complete as s).hostIn = s.hostIn := by
  rw [complete, assignAll_hostIn]; rfl

@[simp] theorem complete_timerIn (as : List Assign) (s : State) : (complete as s).timerIn = s.timerIn := by
  rw [complete, assignAll_timerIn]; rfl

@[simp] theorem complete_readyIn (as : List Assign) (s : State) : (complete as s).readyIn = s.readyIn := by
  rw [complete, assignAll_readyIn]; rfl

@[simp] theorem complete_dev (as : List Assign) (s : State) : (complete as s).dev = s.dev := by
  rw [complete, assignAll_dev]; rfl

@[simp] theorem complete_cfg (as : List Assign) (s : State) : (complete as s).cfg = s.cfg := by
  rw [complete, assignAll_cfg]; rfl

@[simp] theorem complete_rx (as : List Assign) (s : State) : (complete as s).rx = s.rx := by
  rw [complete, assignAll_rx]; rfl

@[simp] theorem complete_waiting (as : List Assign) (s : State) : (complete as s).waiting = s.waiting := by
  rw [complete, assignAll_waiting]; rfl

@[simp] theorem complete_framer (as : List Assign) (s : State) : (complete as s).framer = s.framer := by
  rw [complete, assignAll_framer]; rfl

@[simp] theorem complete_draws (as : List Assign) (s : State) : (complete as s).draws = s.draws := by
  rw [complete, assignAll_draws]; rfl

@[simp] theorem complete_opstep (as : List Assign) (s : State) : (complete as s).opstep = s.opstep + 1 := by
  rw [complete, assignAll_opstep]; rfl


/-! ## One primitive step -/

/-- The assignments of a script reach the phase and the mirrors, and nothing else does. -/
structure AssignedBy (as : List Assign) (s t : State) : Prop where
  phase  : t.phase = s.phase ∨ Assign.phase t.phase ∈ as
  rate   : t.rateMirror = s.rateMirror ∨ ∃ r, t.rateMirror = some r ∧ Assign.rateMirror r ∈ as
  scycle : t.scycleMirror = s.scycleMirror ∨ ∃ b, t.scycleMirror = some b ∧ Assign.scycleMirror b ∈ as

theorem assignAll_assignedBy (as : List Assign) (s : State) : AssignedBy as s (assignAll as s) := by
  induction as generalizing s with
  | nil => exact ⟨.inl rfl, .inl rfl, .inl rfl⟩
  | cons a as ih =>
    obtain ⟨h1, h2, h3⟩ := ih (assign s a)
    have e : assignAll (a :: as) s = assignAll as (assign s a) := rfl
    rw [e]
    cases a <;> refine ⟨?_, ?_, ?_⟩ <;> grind [assign]

theorem AssignedBy.mono {as bs : List Assign} {s t : State} (h : AssignedBy as s t) (hs : as ⊆ bs) : AssignedBy bs s t :=
  ⟨h.phase.imp_right (hs ·), h.rate.imp_right fun ⟨r, h1, h2⟩ => ⟨r, h1, hs h2⟩,
    h.scycle.imp_right fun ⟨b, h1, h2⟩ => ⟨b, h1, hs h2⟩⟩

/-- What no primitive step changes. -/
structure Kept (s t : State) : Prop where
  cfg     : t.cfg = s.cfg
  rsp     : t.rsp = s.rsp
  hostIn  : t.hostIn = s.hostIn
  value   : t.respValue = s.respValue

/-- A primitive step that has been completed. -/
structure Stepped (m : Micro) (s t : State) : Prop where
  kept      : Kept s t
  opstep    : t.opstep = s.opstep + 1
  busy      : t.busy = s.busy
  curReq    : t.curReq = s.curReq
  framer    : t.framer = s.framer
  fault     : t.fault = s.fault
  respValid : t.respValid = s.respValid
  assigned  : AssignedBy (m.before ++ m.after) s t
  busCfg    : t.busCfg = if m.prim = .cfgBus then some ⟨pBitOrder, s.cfg.clkDiv, s.cfg.spiMode⟩
                else if m.prim = .teardown then none else s.busCfg
  cs        : t.cs = if m.prim.beat = .select then true else if m.prim.beat = .deselect then false else s.cs
  trace     : (s.waiting = true ∧ m.prim.beat = .other ∧ m.prim ≠ .sample ∧ t.trace = s.trace) ∨
                ∃ e, t.trace = s.trace ++ [e] ∧ e.beat = (if m.prim.beat = .keep then .send else m.prim.beat)
  rx        : ∃ xs, t.rx = s.rx ++ xs ∧ xs.length = if m.prim.beat = .keep then 1 else 0
  polls     : t.pollCount = s.pollCount ∨ (m.prim = .sample ∧ t.pollCount = s.pollCount + 1)

/-- A delay that stalls. -/
structure Stalled (m : Micro) (s t : State) : Prop where
  kept      : Kept s t
  opstep    : t.opstep = s.opstep
  busy      : t.busy = s.busy
  curReq    : t.curReq = s.curReq
  framer    : t.framer = s.framer
  fault     : t.fault = s.fault
  respValid : t.respValid = s.respValid
  assigned  : AssignedBy m.before s t
  busCfg    : t.busCfg = s.busCfg
  cs        : t.cs = s.cs
  delays    : ∃ n, m.prim = .delayUs n ∨ m.prim = .delayMs n
  report    : timerReport s = .notYet
  trace     : t.trace = s.trace ∨ ∃ e, t.trace = s.trace ++ [e] ∧ e.beat = .other
  rx        : t.rx = s.rx
  polls     : t.pollCount = s.pollCount
  waits     : t.waiting = true

/-- A sample whose timeout is reached. -/
structure TimedOutAt (m : Micro) (s t : State) : Prop where
  kept     : Kept s t
  sample   : m.prim = .sample
  assigned : AssignedBy m.before s t
  busCfg   : t.busCfg = s.busCfg
  cs       : t.cs = false
  fault    : t.fault = 4
  busy     : t.busy = false
  respValid : t.respValid = false
  trace    : ∃ l, t.trace = s.trace ++ [.ready l] ++ (if s.cs then [.cs false] else [])
  opstep   : t.opstep = s.opstep
  reached  : timedOut s.cfg (s.pollCount + 1) = true

theorem complete_assignedBy (as : List Assign) (s : State) : AssignedBy as s (complete as s) := by
  obtain ⟨h1, h2, h3⟩ := assignAll_assignedBy as (advance s)
  exact ⟨h1, h2, h3⟩

theorem AssignedBy.trans {as bs : List Assign} {s t u : State} (h : AssignedBy as s t) (h' : AssignedBy bs t u) :
    AssignedBy (as ++ bs) s u := by
  obtain ⟨a1, a2, a3⟩ := h
  obtain ⟨b1, b2, b3⟩ := h'
  refine ⟨?_, ?_, ?_⟩ <;> grind

/-- A completed primitive between its assignments. -/
theorem assigned_around {m : Micro} {s u : State} (hp : u.phase = (assignAll m.before s).phase)
    (hr : u.rateMirror = (assignAll m.before s).rateMirror) (hc : u.scycleMirror = (assignAll m.before s).scycleMirror) :
    AssignedBy (m.before ++ m.after) s (complete m.after u) := by
  have a := assignAll_assignedBy m.before s
  refine AssignedBy.trans (t := u) ⟨?_, ?_, ?_⟩ (complete_assignedBy _ _)
  · rw [hp]; exact a.phase
  · rw [hr]; exact a.rate
  · rw [hc]; exact a.scycle

/-- A primitive step answers a next state in one of three ways. -/
theorem microStep_next {m : Micro} {s t : State} (h : microStep m s = .next t) :
    Stepped m s t ∨ Stalled m s t ∨ TimedOutAt m s t := by
  unfold microStep at h
  split at h
  case h_1 hp =>
    obtain rfl := Host.Outcome.next.inj h
    left; constructor <;>
      first
        | exact assigned_around rfl rfl rfl
        | (refine Kept.mk ?_ ?_ ?_ ?_ <;> simp [cfgBus, emit])
        | (simp [cfgBus, emit, hp, Prim.beat, BusEvent.beat])
  case h_2 hp =>
    obtain rfl := Host.Outcome.next.inj h
    left; constructor <;>
      first
        | exact assigned_around rfl rfl rfl
        | (refine Kept.mk ?_ ?_ ?_ ?_ <;> simp [teardown, emit])
        | (simp [teardown, emit, hp, Prim.beat, BusEvent.beat])
  case h_3 b hp =>
    obtain rfl := Host.Outcome.next.inj h
    cases b <;> left <;> constructor <;>
      first
        | exact assigned_around rfl rfl rfl
        | (refine Kept.mk ?_ ?_ ?_ ?_ <;> simp [chipSelect, emit])
        | (simp [chipSelect, emit, hp, Prim.beat, BusEvent.beat])
  case h_4 o hp =>
    obtain rfl := Host.Outcome.next.inj h
    obtain ⟨i, d, n, e⟩ := xferDiscard_spec o (assignAll m.before s)
    rw [e]
    left; constructor <;>
      first
        | exact assigned_around rfl rfl rfl
        | (refine Kept.mk ?_ ?_ ?_ ?_ <;> simp)
        | (simp [hp, Prim.beat, BusEvent.beat])
  case h_5 hp =>
    obtain rfl := Host.Outcome.next.inj h
    obtain ⟨i, d, n, e⟩ := xferKeep_spec (assignAll m.before s)
    rw [e]
    left; constructor <;>
      first
        | exact assigned_around rfl rfl rfl
        | (refine Kept.mk ?_ ?_ ?_ ?_ <;> simp)
        | (simp [hp, Prim.beat, BusEvent.beat])
  case h_6 hp =>
    obtain rfl := Host.Outcome.next.inj h
    obtain ⟨ls, n, e⟩ := sampleReady_spec (assignAll m.before s)
    simp only [poll, e]
    generalize (sampleReady (assignAll m.before s)).1 = l
    split_ifs with _ ht
    · left; constructor <;>
      first
        | exact assigned_around rfl rfl rfl
        | (refine Kept.mk ?_ ?_ ?_ ?_ <;> simp)
        | (simp [hp, Prim.beat, BusEvent.beat])
    · right; right
      simp only [raise_spec]
      have a := assignAll_assignedBy m.before s
      constructor <;>
      first
        | exact ⟨a.phase, a.rate, a.scycle⟩
        | (refine Kept.mk ?_ ?_ ?_ ?_ <;> simp)
        | simp [hp, BlockFault.code]
        | simpa using ht
    · left; constructor <;>
      first
        | exact assigned_around rfl rfl rfl
        | (refine Kept.mk ?_ ?_ ?_ ?_ <;> simp)
        | (simp [hp, Prim.beat, BusEvent.beat])
  case h_7 k hp | h_8 k hp =>
    cases ht : timerReport (assignAll m.before s) with
    | done =>
      rw [delay_done ht] at h
      obtain rfl := Host.Outcome.next.inj h
      left; constructor <;>
      first
        | exact assigned_around rfl rfl rfl
        | (refine Kept.mk ?_ ?_ ?_ ?_ <;> simp)
        | (cases hw : s.waiting <;> simp [hp, hw, Prim.beat, BusEvent.beat])
    | notYet =>
      rw [delay_notYet ht] at h
      obtain rfl := Host.Outcome.next.inj h
      have a := assignAll_assignedBy m.before s
      right; left; constructor <;>
      first
        | exact ⟨a.phase, a.rate, a.scycle⟩
        | (refine Kept.mk ?_ ?_ ?_ ?_ <;> simp)
        | (rw [← ht]; simp [timerReport])
        | (cases hw : s.waiting <;> simp [hp, hw, BusEvent.beat])
    | never => rw [delay_never ht] at h; cases h

/-- A primitive step whose timer does its duty answers a next state, and does not stall. -/
theorem microStep_completes (m : Micro) {s : State} (h : timerReport s = .done) :
    ∃ t, microStep m s = .next t ∧ (Stepped m s t ∨ TimedOutAt m s t) := by
  have h' : timerReport (assignAll m.before s) = .done := by simpa [timerReport] using h
  have : ∃ t, microStep m s = .next t := by
    unfold microStep
    split <;> first | exact ⟨_, rfl⟩ | exact ⟨_, delay_done h'⟩
  obtain ⟨t, ht⟩ := this
  rcases microStep_next ht with h1 | h1 | h1
  · exact ⟨t, ht, .inl h1⟩
  · exact absurd (h.symm.trans h1.report) (by simp)
  · exact ⟨t, ht, .inr h1⟩

/-- A primitive step stops only where the timer never completes. -/
theorem microStep_goes_on (m : Micro) {s : State} (h : timerReport s ≠ .never) : ∃ t, microStep m s = .next t := by
  have h' : timerReport (assignAll m.before s) ≠ .never := by simpa [timerReport] using h
  unfold microStep
  split <;> try exact ⟨_, rfl⟩
  all_goals
    cases ht : timerReport (assignAll m.before s) with
    | done => exact ⟨_, delay_done ht⟩
    | notYet => exact ⟨_, delay_notYet ht⟩
    | never => exact absurd ht h'

/-! ## Commands and delays -/

/-- The command frame as the statements write it (R104, R105). -/
theorem cframe_eq_commandByte (p : Params) (op : Byte) : cframe p op = commandByte p.start op := by
  rcases p with ⟨_, sb, _⟩
  cases sb <;> rfl

/-- Where `read` stands at a poll interval (R166). -/
theorem readScript_delay {p : Params} {n k : Nat} (h1 : k % 2 = 1) (h2 : k < 2 * n) :
    (readScript p n)[k]? = some (Prim.delayUs p.chip.pollUs).alone := by
  induction n generalizing k with
  | zero => omega
  | succ n ih =>
    rw [readScript_succ]
    rcases k with _ | _ | k
    · omega
    · rfl
    · simpa using ih (k := k) (by omega) (by omega)

/-- An instruction that stands at a delay asks the timer for it, and then enters `Calibrated` if the delay is a settle
wait (R40, R160). -/
theorem exec_at_delay {i : Instr} {s : State} {e : BusEvent} (h : delayDue i s = some e) :
    exec i s = delay e (if i = .readOp then [] else [.phase .calibrated]) s := by
  cases i <;> simp only [delayDue] at h <;> try cases h
  case readOp =>
    split_ifs at h with h0
    cases h
    simp [exec, execRead, runScript_prim (readScript_delay h0.1 h0.2), Prim.alone, microStep, assignAll]
  all_goals
    split_ifs at h with h0
    cases h
    simp [exec, execBegin, execSelfCal, execSysOffsetCal, execSysGainCal, beginScript, calibration, writeByte, sendCommand,
      Prim.alone, runScript, h0, microStep, assignAll]

end Sys2Proof.Machine
end

