-- ==== Sys2Proof/Laws/Trace.lean ====
section
/-! SUPPORT. How beats move a trace, that every plan is a sequence of whole transactions (20_memory.md R76), and what a
step of an instruction can be. -/

namespace Sys2Proof.Machine

/-! ## Beats -/

theorem beatRun_snoc (bs : List Beat) (b : Beat) : beatRun (bs ++ [b]) = (beatRun bs).bind (fun q => beatMove q b) := by
  simp [beatRun]

theorem busRun_snoc (t : List BusEvent) (e : BusEvent) :
    busRun (t ++ [e]) = (busRun t).bind (fun q => beatMove q e.beat) := by
  simp [busRun, beatRun_snoc]

/-- A kept exchange and a discarded one move a trace alike. -/
theorem beatMove_keep (q : BusPos) : beatMove q .keep = beatMove q .send := by cases q <;> rfl

/-- Events outside transactions leave a trace outside. -/
theorem beatRun_others (n : Nat) : beatRun (List.replicate n Beat.other) = some .outside := by
  induction n with
  | zero => rfl
  | succ n ih => rw [List.replicate_succ', beatRun_snoc, ih]; rfl

/-- Chip select after a legal beat. -/
theorem inside_of_beatMove {q q' : BusPos} {b : Beat} (h : beatMove q b = some q') :
    q'.inside = if b = .select then true else if b = .deselect then false else q.inside := by
  cases q <;> cases b <;> simp [beatMove, BusPos.inside] at * <;> (try obtain ⟨_, rfl⟩ := h) <;> rfl

/-- Every beat of a legal sequence is legal where it stands. -/
theorem beatMove_of_beatRun {bs : List Beat} {b : Beat} {k : Nat} {p : BusPos} (hw : beatRun bs = some p)
    (h : bs[k]? = some b) : ∃ q q', beatRun (bs.take k) = some q ∧ beatMove q b = some q' := by
  have none_stays : ∀ l : List Beat,
      List.foldl (fun (p : Option BusPos) b => p.bind (fun q => beatMove q b)) none l = none := by
    intro l
    induction l with
    | nil => rfl
    | cons a l ih => simpa using ih
  have e : bs = bs.take k ++ b :: bs.drop (k + 1) := by
    obtain ⟨hk, rfl⟩ := List.getElem?_eq_some_iff.mp h
    simp
  rw [e] at hw
  unfold beatRun at hw ⊢
  rw [List.foldl_append, List.foldl_cons] at hw
  cases h1 : List.foldl (fun (p : Option BusPos) b => p.bind (fun q => beatMove q b)) (some .outside) (bs.take k) with
  | none => rw [h1] at hw; simp [none_stays] at hw
  | some q =>
    cases h2 : beatMove q b with
    | none => rw [h1] at hw; simp [h2, none_stays] at hw
    | some q' => exact ⟨q, q', rfl, h2⟩

theorem take_snoc {α : Type} {l : List α} {k : Nat} {a : α} (h : l[k]? = some a) :
    l.take (k + 1) = l.take k ++ [a] := by
  rw [List.take_add_one, h]; rfl

/-! ## Plans -/

theorem flatten_pairs (n : Nat) :
    (List.replicate n [Beat.other, Beat.other]).flatten = List.replicate (2 * n) Beat.other := by
  induction n with
  | zero => rfl
  | succ n ih =>
    rw [List.replicate_succ, List.flatten_cons, ih, show 2 * (n + 1) = 2 + 2 * n by omega, List.replicate_add]
    rfl

/-- `read`'s plan: its polls, one more sample, and the DATA read (R166). -/
theorem plan_read (n : Nat) : plan .readOp n = List.replicate (2 * n + 1) Beat.other ++ planReadTriple := by
  simp only [plan, flatten_pairs, List.replicate_add]
  rfl

theorem plan_read_take {n k : Nat} (h : k ≤ 2 * n + 1) : (plan .readOp n).take k = List.replicate k .other := by
  rw [plan_read, List.take_append_of_le_length (by simpa using h), List.take_replicate, min_eq_left h]

theorem plan_read_length (n : Nat) : (plan .readOp n).length = 2 * n + 7 := by
  simp [plan_read, planReadTriple]

/-- Only `read`'s plan depends on the polls. -/
theorem plan_polls {i : Instr} (h : i ≠ .readOp) (p q : Nat) : plan i p = plan i q := by
  cases i <;> first | rfl | exact absurd rfl h

/-- Each plan is whole transactions (R76). -/
theorem beatRun_plan (i : Instr) (p : Nat) : beatRun (plan i p) = some .outside := by
  by_cases h : i = .readOp
  · subst h
    have h2 := beatRun_others (2 * p + 1)
    rw [plan_read]
    unfold beatRun at *
    rw [List.foldl_append, h2]
    rfl
  · cases i <;> first | rfl | exact absurd rfl h | (simp only [plan]; split_ifs <;> rfl)

/-! ## One step of an instruction -/

theorem drawn_only {s s' : State} (h : s' = s ∨ s' = drawn s) : ∃ n, s' = { s with draws := n } := by
  rcases h with rfl | rfl
  · exact ⟨s'.draws, rfl⟩
  · exact ⟨_, rfl⟩

/-- A step of an instruction is a primitive of its script, in one of three ways, or its `respond`. -/
theorem exec_next {i : Instr} {s t : State} (h : exec i s = .next t) :
    ∃ script final v n, Runs i s script final v { s with draws := n } ∧
      ((∃ m, script[s.opstep]? = some m ∧
          (Stepped m { s with draws := n } t ∨ Stalled m { s with draws := n } t ∨
            TimedOutAt m { s with draws := n } t)) ∨
       (s.opstep = script.length ∧ t = respond v (assignAll final { s with draws := n }))) := by
  obtain ⟨script, final, v, s', R⟩ := exec_runs i s
  obtain ⟨n, rfl⟩ := drawn_only R.state
  refine ⟨script, final, v, n, R, ?_⟩
  rw [R.exec_eq] at h
  rcases runScript_cases script final v { s with draws := n } with ⟨m, h1, h2⟩ | ⟨h1, h2⟩ | ⟨h1, h2⟩
  · exact .inl ⟨m, h1, microStep_next (h2 ▸ h)⟩
  · rw [h2] at h
    exact .inr ⟨h1, (Host.Outcome.next.inj h).symm⟩
  · rw [h2] at h
    cases h

end Sys2Proof.Machine
end

