-- ==== Sys2Proof/Tests/Slice0.lean ====
section
/-! SUPPORT. Tests: the well-formedness smoke test, the decoding of words written out from the encodings of
30_encoding.md, one step of each instruction with the results of 95_test_vectors.md, and for every statement with
hypotheses a state and operands that meet them. -/

open Sys2Proof Sys2Proof.Machine

namespace Sys2Proof.Tests

/-! ## Well-formedness (30_encoding.md R106, R117) -/

theorem test_setRate_operand_has_8_bits : wellFormed (.setRate 256) = false ∧ wellFormed (.setRate 255) = true := by
  decide

theorem test_setGpioDir_pin_has_8_bits :
    wellFormed (.setGpioDir 256 true) = false ∧ wellFormed (.setGpioDir 255 true) = true := by decide

theorem test_getGpioDir_pin_has_8_bits :
    wellFormed (.getGpioDir 256) = false ∧ wellFormed (.getGpioDir 255) = true := by decide

theorem test_setGpioValue_pin_has_8_bits :
    wellFormed (.setGpioValue 256 true) = false ∧ wellFormed (.setGpioValue 255 true) = true := by decide

theorem test_getGpioValue_pin_has_8_bits :
    wellFormed (.getGpioValue 256) = false ∧ wellFormed (.getGpioValue 255) = true := by decide

theorem test_setGain_operand_has_8_bits : wellFormed (.setGain 256) = false ∧ wellFormed (.setGain 255) = true := by
  decide

theorem test_cmdRate_code_has_3_bits : wellFormed (.cmdRate 8) = false ∧ wellFormed (.cmdRate 7) = true := by decide

/-! ## Decoding. Request words: `0xOOAABBDDDDDD`, the op of R116, `a` in bits 39:32, `b` in bit 24 (R115). -/

theorem test_decode_beginOp : decode Params.default (.request 0x000000000000) = .ok .beginOp := by decide

theorem test_decode_endOp : decode Params.default (.request 0x010000000000) = .ok .endOp := by decide

theorem test_decode_readOp : decode Params.default (.request 0x020000000000) = .ok .readOp := by decide

theorem test_decode_selfCal : decode Params.default (.request 0x030000000000) = .ok .selfCal := by decide

theorem test_decode_sysOffsetCal : decode Params.default (.request 0x040000000000) = .ok .sysOffsetCal := by decide

theorem test_decode_sysGainCal : decode Params.default (.request 0x050000000000) = .ok .sysGainCal := by decide

theorem test_decode_setRate : decode Params.default (.request 0x060B00000000) = .ok (.setRate 0x0B) := by decide

theorem test_decode_getReady : decode Params.default (.request 0x080000000000) = .ok .getReady := by decide

theorem test_decode_getMeasStat : decode Params.default (.request 0x090000000000) = .ok .getMeasStat := by decide

theorem test_decode_getUnderRange : decode Params.default (.request 0x0A0000000000) = .ok .getUnderRange := by decide

theorem test_decode_getOverRange : decode Params.default (.request 0x0B0000000000) = .ok .getOverRange := by decide

theorem test_decode_getRate : decode Params.default (.request 0x0C0000000000) = .ok .getRate := by decide

theorem test_decode_getSysGainOverRange : decode Params.default (.request 0x0D0000000000) = .ok .getSysGainOverRange := by decide

theorem test_decode_setLineFreq : decode Params.default (.request 0x100001000000) = .ok (.setLineFreq true) := by decide

theorem test_decode_getLineFreq : decode Params.default (.request 0x110000000000) = .ok .getLineFreq := by decide

theorem test_decode_setInputRange : decode Params.default (.request 0x120000000000) = .ok (.setInputRange false) := by decide

theorem test_decode_getInputRange : decode Params.default (.request 0x130000000000) = .ok .getInputRange := by decide

theorem test_decode_setClockSource : decode Params.default (.request 0x140001000000) = .ok (.setClockSource true) := by decide

theorem test_decode_getClockSource : decode Params.default (.request 0x150000000000) = .ok .getClockSource := by decide

theorem test_decode_setRefBuf : decode Params.default (.request 0x160001000000) = .ok (.setRefBuf true) := by decide

theorem test_decode_getRefBuf : decode Params.default (.request 0x170000000000) = .ok .getRefBuf := by decide

theorem test_decode_setSigBuf : decode Params.default (.request 0x180001000000) = .ok (.setSigBuf true) := by decide

theorem test_decode_getSigBuf : decode Params.default (.request 0x190000000000) = .ok .getSigBuf := by decide

theorem test_decode_setFormat : decode Params.default (.request 0x1A0001000000) = .ok (.setFormat true) := by decide

theorem test_decode_getFormat : decode Params.default (.request 0x1B0000000000) = .ok .getFormat := by decide

theorem test_decode_setConvMode : decode Params.default (.request 0x1C00FF000000) = .ok (.setConvMode true) := by decide

theorem test_decode_getConvMode : decode Params.default (.request 0x1D0000000000) = .ok .getConvMode := by decide

theorem test_decode_setGpioDir : decode Params.default (.request 0x200401000000) = .ok (.setGpioDir 4 true) := by decide

theorem test_decode_getGpioDir : decode Params.default (.request 0x210400000000) = .ok (.getGpioDir 4) := by decide

theorem test_decode_setGpioValue : decode Params.default (.request 0x22FF00000000) = .ok (.setGpioValue 255 false) := by decide

theorem test_decode_getGpioValue : decode Params.default (.request 0x23C800000000) = .ok (.getGpioValue 200) := by decide

theorem test_decode_setGain : decode Params.default (.request 0x2807FE000000) = .ok (.setGain 7) := by decide

theorem test_decode_getGain : decode Params.default (.request 0x290000000000) = .ok .getGain := by decide

theorem test_decode_setNoSysGainCal : decode Params.default (.request 0x2A0001000000) = .ok (.setNoSysGainCal true) := by decide

theorem test_decode_getNoSysGainCal : decode Params.default (.request 0x2B0000000000) = .ok .getNoSysGainCal := by decide

theorem test_decode_setNoSysOffsetCal : decode Params.default (.request 0x2C0001000000) = .ok (.setNoSysOffsetCal true) := by decide

theorem test_decode_getNoSysOffsetCal : decode Params.default (.request 0x2D0000000000) = .ok .getNoSysOffsetCal := by decide

theorem test_decode_setNoSelfGainCal : decode Params.default (.request 0x2E0001000000) = .ok (.setNoSelfGainCal true) := by decide

theorem test_decode_getNoSelfGainCal : decode Params.default (.request 0x2F0000000000) = .ok .getNoSelfGainCal := by decide

theorem test_decode_setNoSelfOffsetCal : decode Params.default (.request 0x300001000000) = .ok (.setNoSelfOffsetCal true) := by decide

theorem test_decode_getNoSelfOffsetCal : decode Params.default (.request 0x310000000000) = .ok .getNoSelfOffsetCal := by decide

theorem test_decode_getSOC : decode Params.default (.request 0x380000000000) = .ok .getSOC := by decide

theorem test_decode_setSOC : decode Params.default (.request 0x390000123456) = .ok (.setSOC 0x123456) := by decide

theorem test_decode_getSGC : decode Params.default (.request 0x3A0000000000) = .ok .getSGC := by decide

theorem test_decode_setSGC : decode Params.default (.request 0x3B0000C00000) = .ok (.setSGC 0xC00000) := by decide

theorem test_decode_getSCOC : decode Params.default (.request 0x3C0000000000) = .ok .getSCOC := by decide

theorem test_decode_setSCOC : decode Params.default (.request 0x3D0000000001) = .ok (.setSCOC 0x000001) := by decide

theorem test_decode_getSCGC : decode Params.default (.request 0x3E0000000000) = .ok .getSCGC := by decide

theorem test_decode_setSCGC : decode Params.default (.request 0x3F0000ABCDEF) = .ok (.setSCGC 0xABCDEF) := by decide

/-! Frame bytes, START = bit 7, MODE = bit 6, bit 5 zero, address in bits 4:1, READ = bit 0; payload bytes follow (R100 to
R111). -/

theorem test_decode_rframeStat : decode Params.default (.mosi [0xC1]) = .ok .rframeStat := by decide

theorem test_decode_rframeCtrl1 : decode Params.default (.mosi [0xC3]) = .ok .rframeCtrl1 := by decide

theorem test_decode_rframeCtrl2 : decode Params.default (.mosi [0xC5]) = .ok .rframeCtrl2 := by decide

theorem test_decode_rframeCtrl3 : decode Params.default (.mosi [0xC7]) = .ok .rframeCtrl3 := by decide

theorem test_decode_rframeData : decode Params.default (.mosi [0xC9]) = .ok .rframeData := by decide

theorem test_decode_rframeSoc : decode Params.default (.mosi [0xCB]) = .ok .rframeSoc := by decide

theorem test_decode_rframeSgc : decode Params.default (.mosi [0xCD]) = .ok .rframeSgc := by decide

theorem test_decode_rframeScoc : decode Params.default (.mosi [0xCF]) = .ok .rframeScoc := by decide

theorem test_decode_rframeScgc : decode Params.default (.mosi [0xD1]) = .ok .rframeScgc := by decide

theorem test_decode_wframeCtrl1 : decode Params.default (.mosi [0xC2, 0xC0]) = .ok (.wframeCtrl1 0xC0) := by decide

theorem test_decode_wframeCtrl2 : decode Params.default (.mosi [0xC4, 0xF5]) = .ok (.wframeCtrl2 0xF5) := by decide

theorem test_decode_wframeCtrl3 : decode Params.default (.mosi [0xC6, 0x1E]) = .ok (.wframeCtrl3 0x1E) := by decide

theorem test_decode_wframeSoc : decode Params.default (.mosi [0xCA, 0x12, 0x34, 0x56]) = .ok (.wframeSoc 0x123456) := by decide

theorem test_decode_wframeSgc : decode Params.default (.mosi [0xCC, 0xC0, 0x00, 0x00]) = .ok (.wframeSgc 0xC00000) := by decide

theorem test_decode_wframeScoc : decode Params.default (.mosi [0xCE, 0x00, 0x00, 0x01]) = .ok (.wframeScoc 0x000001) := by decide

theorem test_decode_wframeScgc : decode Params.default (.mosi [0xD0, 0xAB, 0xCD, 0xEF]) = .ok (.wframeScgc 0xABCDEF) := by decide

theorem test_decode_cmdRate : decode Params.default (.mosi [0x83]) = .ok (.cmdRate 3) := by decide

theorem test_decode_cmdPowerDown : decode Params.default (.mosi [0x88]) = .ok .cmdPowerDown := by decide

theorem test_decode_cmdSelfCal : decode Params.default (.mosi [0x90]) = .ok .cmdSelfCal := by decide

theorem test_decode_cmdSysOffCal : decode Params.default (.mosi [0xA0]) = .ok .cmdSysOffCal := by decide

theorem test_decode_cmdSysGainCal : decode Params.default (.mosi [0xB0]) = .ok .cmdSysGainCal := by decide

/-- With P_START = 0x40 the rate-10 command is 0x43 and 0x83 is no frame (R105, 95_test_vectors.md L2.1). -/
theorem test_decode_start_bit6 :
    decode { Params.default with start := .bit6 } (.mosi [0x43]) = .ok (.cmdRate 3) ∧
    decode { Params.default with start := .bit6 } (.mosi [0x83]) = .error .startMissing := by decide

/-- The fields of opcode 0x2B: CAL1, IMPD and rate 3 (R106). -/
theorem test_opcode_fields : viewOpcode Params.default 0x2B = ⟨true, false, true, 0x03⟩ := by decide

/-- The chip constants of R7 are coherent; two registers at one address are not (R42). -/
theorem test_chip_coherent :
    Chip.default.coherent = true ∧
    Chip.coherent { Chip.default with regAddr := { RegAddr.default with soc := 0x6 } } = false := by decide

/-! Every rejection by name (R107, R112 to R114, R118). -/

theorem test_reject_topBitsSet : decode Params.default (.request 0x400000000000) = .error .topBitsSet := by decide

theorem test_reject_unassignedOp : decode Params.default (.request 0x320000000000) = .error .unassignedOp := by decide

theorem test_reject_noFrameByte : decode Params.default (.mosi []) = .error .noFrameByte := by decide

theorem test_reject_startMissing : decode Params.default (.mosi [0x43]) = .error .startMissing := by decide

theorem test_reject_bit5Set : decode Params.default (.mosi [0xE1]) = .error .bit5Set := by decide

/-- Address 0x9 names no register, and the Block writes neither STAT nor DATA (R109, R110). -/
theorem test_reject_addressNeverSent :
    decode Params.default (.mosi [0xD3]) = .error .addressNeverSent ∧ decode Params.default (.mosi [0xC0, 0]) = .error .addressNeverSent ∧
    decode Params.default (.mosi [0xC8, 0, 0, 0]) = .error .addressNeverSent := by decide

theorem test_reject_commandNeverSent : decode Params.default (.mosi [0x8B]) = .error .commandNeverSent := by decide

theorem test_reject_payloadMissing : decode Params.default (.mosi [0xCA, 0x12, 0x34]) = .error .payloadMissing := by decide

/-- The examples of R120. -/
theorem test_text :
    requestText (.setGain 5) = some "setGain 5" ∧ requestText (.setGpioDir 2 false) = some "setGpioDir 2, false" ∧
    requestText .beginOp = some "begin" ∧ requestText .rframeStat = none := by decide

/-! ## One step of each instruction (95_test_vectors.md L2) -/

/-- A machine in `Converting` with an operation at its step `k`, the bytes `rx` received, and a Device that answers
0xA5. -/
def running (k : Nat) (rx : List Byte) : State :=
  { State.reset with
    phase  := .converting
    busCfg := some ⟨.msbFirst, 1, 0⟩
    busy   := true
    curReq := some 0x080000000000
    opstep := k
    rx     := rx
    dev    := .oracle [0xA5] }

/-- What a step has added to the empty trace of `running`. -/
def events (r : Result) : List BusEvent :=
  match r with
  | .next t => t.trace
  | .fault _ | .refused _ => []

/-- The response of a step. -/
def response (r : Result) : Option Word32 :=
  match r with
  | .next t => if t.respValid then some t.respValue else none
  | .fault _ | .refused _ => none

/-- The phase after a step. -/
def phaseAfter (r : Result) : Option Phase :=
  match r with
  | .next t => some t.phase
  | .fault _ | .refused _ => none

/-- The fault code after a step. -/
def faultAfter (r : Result) : Option (BitVec 8) :=
  match r with
  | .next t => some t.fault
  | .fault _ | .refused _ => none

theorem test_begin_writes_default_ctrl2 : events (exec .beginOp (running 7 [])) = [.xfer 0xF5 0xA5] := by decide

theorem test_begin_last_command_is_rate10 : events (exec .beginOp (running 18 [])) = [.xfer 0x83 0xA5] := by decide

theorem test_end_powers_down : events (exec .endOp (running 1 [])) = [.xfer 0x88 0xA5] := by decide

theorem test_end_phase : phaseAfter (exec .endOp (running 4 [])) = some .uninitialized := by decide

theorem test_read_sign_extends : response (exec .readOp (running 7 [0x80, 0x00, 0x01])) = some 0xFF800001 := by decide

theorem test_read_polls_first : events (exec .readOp { running 0 [] with readyIn := [true] }) = [.ready true] := by decide

theorem test_selfCal_command : events (exec .selfCal (running 1 [])) = [.xfer 0x90 0xA5] := by decide

theorem test_selfCal_phase : phaseAfter (exec .selfCal (running 3 [])) = some .calibrated := by decide

theorem test_sysOffsetCal_command : events (exec .sysOffsetCal (running 1 [])) = [.xfer 0xA0 0xA5] := by decide

theorem test_sysGainCal_command : events (exec .sysGainCal (running 1 [])) = [.xfer 0xB0 0xA5] := by decide

theorem test_setRate_masks_three_bits : events (exec (.setRate 0x0B) (running 1 [])) = [.xfer 0x83 0xA5] := by decide

theorem test_setRate_low6_mask :
    events (exec (.setRate 0x0B) { running 1 [] with cfg := { Params.default with rateArgMask := .low6 } }) =
      [.xfer 0x8B 0xA5] := by decide

/-- A correction of R7 changes one field: DEFAULT_CTRL2, and the address of SOC (R8). -/
theorem test_correction_changes_one_field :
    events (exec .beginOp { running 7 [] with
      cfg := { Params.default with chip := { Chip.default with defaultCtrl2 := 0x05 } } }) = [.xfer 0x05 0xA5] ∧
    events (exec .getSOC { running 1 [] with
      cfg := { Params.default with chip := { Chip.default with regAddr := { RegAddr.default with soc := 0x9 } } } }) =
      [.xfer 0xD3 0xA5] := by decide

theorem test_getReady : response (exec .getReady (running 4 [0x31])) = some 1 := by decide

theorem test_getMeasStat : response (exec .getMeasStat (running 4 [0xA6])) = some 1 := by decide

theorem test_getUnderRange : response (exec .getUnderRange (running 4 [0xA6])) = some 1 := by decide

theorem test_getOverRange : response (exec .getOverRange (running 4 [0x4A])) = some 1 := by decide

theorem test_getRate : response (exec .getRate (running 4 [0x31])) = some 3 := by decide

theorem test_getSysGainOverRange : response (exec .getSysGainOverRange (running 4 [0xA6])) = some 1 := by decide

theorem test_getLineFreq : response (exec .getLineFreq (running 4 [0xC0])) = some 1 := by decide

theorem test_getInputRange : response (exec .getInputRange (running 4 [0x3E])) = some 0 := by decide

theorem test_getClockSource : response (exec .getClockSource (running 4 [0x3E])) = some 1 := by decide

theorem test_getRefBuf : response (exec .getRefBuf (running 4 [0x3E])) = some 1 := by decide

theorem test_getSigBuf : response (exec .getSigBuf (running 4 [0x3E])) = some 1 := by decide

theorem test_getFormat : response (exec .getFormat (running 4 [0x3E])) = some 1 := by decide

theorem test_getConvMode : response (exec .getConvMode (running 4 [0x01])) = some 0 := by decide

theorem test_setLineFreq : events (exec (.setLineFreq true) (running 6 [0x55])) = [.xfer 0xD5 0xA5] := by decide

theorem test_setInputRange : events (exec (.setInputRange false) (running 6 [0x55])) = [.xfer 0x15 0xA5] := by decide

theorem test_setClockSource : events (exec (.setClockSource true) (running 6 [0x55])) = [.xfer 0x75 0xA5] := by decide

theorem test_setRefBuf : events (exec (.setRefBuf false) (running 6 [0x55])) = [.xfer 0x45 0xA5] := by decide

theorem test_setSigBuf : events (exec (.setSigBuf true) (running 6 [0x55])) = [.xfer 0x5D 0xA5] := by decide

theorem test_setFormat : events (exec (.setFormat false) (running 6 [0x55])) = [.xfer 0x51 0xA5] := by decide

theorem test_setConvMode : events (exec (.setConvMode true) (running 6 [0x55])) = [.xfer 0x57 0xA5] := by decide

theorem test_setGpioDir_pin2 : events (exec (.setGpioDir 2 false) (running 6 [0xF5])) = [.xfer 0xB5 0xA5] := by decide

theorem test_setGpioDir_pin4_is_ignored : response (exec (.setGpioDir 4 true) (running 0 [])) = some 0 := by decide

theorem test_setGpioValue_pin3 : events (exec (.setGpioValue 3 true) (running 6 [0xF5])) = [.xfer 0xFD 0xA5] := by decide

theorem test_setGpioValue_pin255_is_ignored : response (exec (.setGpioValue 255 false) (running 0 [])) = some 0 := by decide

theorem test_getGpioDir_pin2 : response (exec (.getGpioDir 2) (running 4 [0xB7])) = some 0 := by decide

theorem test_getGpioDir_pin4_emits_nothing : events (exec (.getGpioDir 4) (running 0 [])) = [] := by decide

theorem test_getGpioValue_pin3 : response (exec (.getGpioValue 3) (running 4 [0xB7])) = some 0 := by decide

theorem test_getGpioValue_pin200_emits_nothing : events (exec (.getGpioValue 200) (running 0 [])) = [] := by decide

theorem test_setGain_3 : events (exec (.setGain 3) (running 6 [0x1E])) = [.xfer 0x7E 0xA5] := by decide

theorem test_setGain_255_is_clamped : events (exec (.setGain 255) (running 6 [0xFF])) = [.xfer 0x9F 0xA5] := by decide

theorem test_getGain_is_not_clamped : response (exec .getGain (running 4 [0xE0])) = some 7 := by decide

theorem test_setNoSysGainCal : events (exec (.setNoSysGainCal false) (running 6 [0x9E])) = [.xfer 0x8E 0xA5] := by decide

theorem test_setNoSysOffsetCal : events (exec (.setNoSysOffsetCal false) (running 6 [0x9E])) = [.xfer 0x96 0xA5] := by decide

theorem test_setNoSelfGainCal : events (exec (.setNoSelfGainCal false) (running 6 [0x9E])) = [.xfer 0x9A 0xA5] := by decide

theorem test_setNoSelfOffsetCal : events (exec (.setNoSelfOffsetCal false) (running 6 [0x9E])) = [.xfer 0x9C 0xA5] := by decide

theorem test_getNoSysGainCal : response (exec .getNoSysGainCal (running 4 [0x9C])) = some 1 := by decide

theorem test_getNoSysOffsetCal : response (exec .getNoSysOffsetCal (running 4 [0x9C])) = some 1 := by decide

theorem test_getNoSelfGainCal : response (exec .getNoSelfGainCal (running 4 [0x9C])) = some 1 := by decide

theorem test_getNoSelfOffsetCal : response (exec .getNoSelfOffsetCal (running 4 [0x9C])) = some 0 := by decide

theorem test_getSOC : response (exec .getSOC (running 6 [0x12, 0x34, 0x56])) = some 0x123456 := by decide

theorem test_getSGC : response (exec .getSGC (running 6 [0xFF, 0xFF, 0xFE])) = some 0xFFFFFFFE := by decide

theorem test_getSCOC : response (exec .getSCOC (running 6 [0x7F, 0xFF, 0xFF])) = some 0x7FFFFF := by decide

theorem test_getSCGC : response (exec .getSCGC (running 6 [0x80, 0x00, 0x00])) = some 0xFF800000 := by decide

theorem test_setSOC : events (exec (.setSOC 0x123456) (running 3 [])) = [.xfer 0x34 0xA5] := by decide

theorem test_setSGC : events (exec (.setSGC 0xC00000) (running 2 [])) = [.xfer 0xC0 0xA5] := by decide

theorem test_setSCOC : events (exec (.setSCOC 0x000001) (running 4 [])) = [.xfer 0x01 0xA5] := by decide

theorem test_setSCGC : events (exec (.setSCGC 0xABCDEF) (running 1 [])) = [.xfer 0xD0 0xA5] := by decide

theorem test_rframeStat : events (exec .rframeStat (running 1 [])) = [.xfer 0xC1 0xA5] := by decide

theorem test_rframeCtrl1 : events (exec .rframeCtrl1 (running 1 [])) = [.xfer 0xC3 0xA5] := by decide

theorem test_rframeCtrl2 : events (exec .rframeCtrl2 (running 1 [])) = [.xfer 0xC5 0xA5] := by decide

theorem test_rframeCtrl3 : events (exec .rframeCtrl3 (running 1 [])) = [.xfer 0xC7 0xA5] := by decide

theorem test_rframeData : events (exec .rframeData (running 1 [])) = [.xfer 0xC9 0xA5] := by decide

theorem test_rframeSoc : events (exec .rframeSoc (running 1 [])) = [.xfer 0xCB 0xA5] := by decide

theorem test_rframeSgc : events (exec .rframeSgc (running 1 [])) = [.xfer 0xCD 0xA5] := by decide

theorem test_rframeScoc : events (exec .rframeScoc (running 1 [])) = [.xfer 0xCF 0xA5] := by decide

theorem test_rframeScgc : events (exec .rframeScgc (running 1 [])) = [.xfer 0xD1 0xA5] := by decide

theorem test_cmdPowerDown : events (exec .cmdPowerDown (running 1 [])) = [.xfer 0x88 0xA5] := by decide

theorem test_cmdSelfCal : events (exec .cmdSelfCal (running 1 [])) = [.xfer 0x90 0xA5] := by decide

theorem test_cmdSysOffCal : events (exec .cmdSysOffCal (running 1 [])) = [.xfer 0xA0 0xA5] := by decide

theorem test_cmdSysGainCal : events (exec .cmdSysGainCal (running 1 [])) = [.xfer 0xB0 0xA5] := by decide

theorem test_cmdRate : events (exec (.cmdRate 7) (running 1 [])) = [.xfer 0x87 0xA5] := by decide

theorem test_wframeCtrl1 : events (exec (.wframeCtrl1 0xC0) (running 2 [])) = [.xfer 0xC0 0xA5] := by decide

theorem test_wframeCtrl2 : events (exec (.wframeCtrl2 0xF5) (running 1 [])) = [.xfer 0xC4 0xA5] := by decide

theorem test_wframeCtrl3 : events (exec (.wframeCtrl3 0x1E) (running 2 [])) = [.xfer 0x1E 0xA5] := by decide

theorem test_wframeSoc : events (exec (.wframeSoc 0x123456) (running 4 [])) = [.xfer 0x56 0xA5] := by decide

theorem test_wframeSgc : events (exec (.wframeSgc 0xC00000) (running 2 [])) = [.xfer 0xC0 0xA5] := by decide

theorem test_wframeScoc : events (exec (.wframeScoc 0x000001) (running 1 [])) = [.xfer 0xCE 0xA5] := by decide

theorem test_wframeScgc : events (exec (.wframeScgc 0xABCDEF) (running 3 [])) = [.xfer 0xCD 0xA5] := by decide

/-! ## Faults and acceptance (95_test_vectors.md L2.8) -/

/-- A machine in `Converting` and idle, with one Host move. -/
def idle (m : HostMove) : State :=
  { State.reset with
    phase  := .converting
    busCfg := some ⟨.msbFirst, 1, 0⟩
    hostIn := [m] }

theorem test_read_before_begin : faultAfter (step { State.reset with hostIn := [.now 0x020000000000] }) = some 1 := by
  decide

theorem test_illegal_before_begin : faultAfter (step { State.reset with hostIn := [.now 0x0F0000000000] }) = some 3 := by
  decide

theorem test_reentrant_request : faultAfter (step { running 1 [] with hostIn := [.now 0x070000000000] }) = some 2 := by
  decide

/-- A request while chip select is asserted: the Block emits `CS(false)` and halts. -/
theorem test_reentrant_request_releases_chip_select :
    events (step { running 5 [0x1E] with cs := true, hostIn := [.now 0x290000000000] }) = [.cs false] := by decide

theorem test_op_0x32_is_illegal : faultAfter (step (idle (.now 0x320000000000))) = some 3 := by decide

theorem test_begin_is_accepted :
    phaseAfter (step { State.reset with hostIn := [.now 0x000000000000] }) = some .configuring := by decide

/-- P_READ_TIMEOUT = 1 and one sample 1. -/
theorem test_read_timeout :
    faultAfter (exec .readOp { running 0 [] with
      readyIn := [true], cfg := { Params.default with readTimeout := some 1 } }) = some 4 := by decide

/-! ## A state that meets the hypotheses, for every statement that has some -/

/-- A `getReady` after its `CS(true)`. -/
def midRead : State :=
  { State.reset with
    phase  := .converting
    busCfg := some ⟨.msbFirst, 1, 0⟩
    busy   := true
    cs     := true
    curReq := some 0x080000000000
    opstep := 1
    trace  := [.cs true]
    dev    := .oracle [0xA5] }

/-- A `read` at its first sample, the line not ready. -/
def polling : State := { running 0 [] with curReq := some 0x020000000000, readyIn := [true, true, false, true] }

/-- An idle machine with a fault recorded. -/
def faulted (m : List HostMove) : State := { State.reset with fault := 3, hostIn := m }

/-- RefDev at the start of an operation. -/
def refDev : RefDev := ⟨0x31, 0x55, 0xF5, 0x1E, 0x123456, 0x800000, 0x000000, 0x000000, 0x000001, .frame⟩

theorem witness_atStart : AtStart State.reset ∧ AtStart (running 0 []) := ⟨⟨rfl, rfl, rfl⟩, ⟨rfl, rfl, rfl⟩⟩

theorem witness_timerDutiful : TimerDutiful State.reset ∧ TimerDutiful { running 3 [] with timerIn := [.done] } := ⟨rfl, rfl⟩

theorem midRead_disciplined : BusDisciplined midRead := by
  refine ⟨by decide, by decide, by decide, fun _ h => absurd h (by decide), fun _ => ⟨.getReady, by decide, ?_⟩⟩
  exact ⟨by decide, by decide, by decide, by decide⟩

theorem midRead_configured : BusConfigured midRead := fun _ =>
  ⟨by decide, by decide, fun _ => ⟨by decide, .getReady, by decide, .inr ⟨by decide, by decide⟩⟩⟩

theorem witness_ResetValuesOfEveryElement : blockReset midRead ∈ [blockReset midRead, State.reset] := by simp

theorem witness_HostResetRunsBlockReset :
    (faulted [.reset]).hostIn = .reset :: [] ∧ (faulted [.reset]).dev = .oracle [] ∧
    ({ faulted [.reset] with dev := .ref refDev } : State).dev = .ref refDev := ⟨rfl, rfl, rfl⟩

/-- At the first request after reset, and later; `now` and `whenFree`. -/
theorem witness_LegalRequestIsAccepted :
    (({ State.reset with hostIn := [.now 0] } : State).hostIn = .now 0 :: [] ∧ State.reset.fault = 0 ∧
      State.reset.busy = false ∧ decodeRequest 0 = .ok .beginOp) ∧
    ((idle (.whenFree 0x290000000000)).hostIn = .whenFree 0x290000000000 :: [] ∧
      (idle (.whenFree 0x290000000000)).fault = 0 ∧ (idle (.whenFree 0x290000000000)).busy = false ∧
      decodeRequest 0x290000000000 = .ok .getGain ∧ (idle (.whenFree 0x290000000000)).phase ≠ .uninitialized) := by decide

/-- Each of the three clauses; an illegal word in `Uninitialized` falls under the second only. -/
theorem witness_RequestFaultsByPriority :
    (midRead.busy = true ∧ midRead.fault = 0 ∧ ({ midRead with hostIn := [.now 0] } : State).hostIn = .now 0 :: []) ∧
    (State.reset.busy = false ∧ decodeRequest 0x0F0000000000 = .error .unassignedOp) ∧
    (State.reset.busy = false ∧ decodeRequest 0x020000000000 = .ok .readOp ∧ State.reset.phase = .uninitialized) := by decide

/-- A step that raises ReadTimeout. -/
theorem witness_RequestFaultsByPriority_timeout :
    faultAfter (step { polling with cfg := { Params.default with readTimeout := some 1 } }) = some 4 := by decide

theorem witness_FaultedBlockTakesNoStep :
    (faulted []).fault ≠ 0 ∧ (∀ rest, (faulted []).hostIn ≠ .reset :: rest) ∧ (faulted [.reset]).fault ≠ 0 ∧
    (faulted [.reset]).hostIn = .reset :: [] := ⟨by decide, (by intro rest h; cases h), by decide, rfl⟩

theorem witness_FaultIsSetOnlyByRaising :
    (∃ t, step (idle (.now 0x320000000000)) = .next t ∧ t.fault ≠ 0) ∧ ∃ t, step (faulted [.reset]) = .next t :=
  ⟨⟨_, rfl, by decide⟩, ⟨_, rfl⟩⟩

/-- P_READ_TIMEOUT = 1 at the first sample, and P_READ_TIMEOUT = 2 and none. -/
theorem witness_ReadTimeoutAtTheNthSample :
    polling.opstep = 2 * polling.pollCount ∧ polling.readyIn = true :: [true, false, true] ∧
    true ≠ polling.cfg.readyAsserted ∧ polling.cs = false ∧
    ({ polling with cfg := { Params.default with readTimeout := some 1 } } : State).cfg.readTimeout = some 1 ∧
    1 ≤ polling.pollCount + 1 ∧ polling.pollCount + 1 < 2 ∧ polling.cfg.readTimeout = none := by decide

theorem witness_StepRunsTheInstructionInFlight :
    midRead.fault = 0 ∧ midRead.busy = true ∧ midRead.hostIn = [] ∧ midRead.framer = none ∧
    midRead.curReq = some 0x080000000000 ∧ decodeRequest 0x080000000000 = .ok .getReady ∧
    (State.reset.withFetchWord 8 0xC9).framer = some [0xC9, 0, 0, 0] ∧
    decode (State.reset.withFetchWord 8 0xC9).cfg (.mosi [0xC9, 0, 0, 0]) = .ok .rframeData ∧
    (idle .idle).fault = 0 ∧ (idle .idle).busy = false ∧ (idle .idle).hostIn = .idle :: [] := by decide

theorem witness_PlacedTableWordRunsNext :
    State.reset.cfg.chip = .default ∧ State.reset.cfg.start = .bit7 ∧ decodeTableWord 48 0x290000000000 = some .getGain ∧
    decodeTableWord 8 0xD0 = some (.wframeScgc 0) := by decide

theorem idle_disciplined (m : HostMove) : BusDisciplined (idle m) :=
  ⟨by simp [idle, State.reset], by simp [idle, State.reset], by simp [idle, State.reset],
    fun _ _ => ⟨rfl, rfl, rfl, rfl, rfl⟩, fun h => by cases h⟩

/-- The last step of a `getReady`. -/
def responding : State :=
  { running 4 [0x31] with trace := [.cs true, .xfer 0xC1 0xA5, .xfer 0x00 0x31, .cs false] }

theorem responding_disciplined : BusDisciplined responding := by
  refine ⟨by decide, by decide, by decide, fun _ h => absurd h (by decide), fun _ => ⟨.getReady, by decide, ?_⟩⟩
  exact ⟨by decide, by decide, by decide, by decide⟩

/-- Steps of a running operation; and of each other clause: an acceptance, an idle step, a response, a fault. -/
theorem witness_OnePrimitiveEventPerStep :
    (BusDisciplined midRead ∧ (∃ t, step midRead = .next t ∧ t.busy = true ∧ midRead.busy = true) ∧
      ∀ rest, midRead.hostIn ≠ .reset :: rest) ∧
    (BusDisciplined (idle (.now 0x290000000000)) ∧ (idle (.now 0x290000000000)).busy = false ∧
      ∃ t, step (idle (.now 0x290000000000)) = .next t ∧ t.busy = true) ∧
    (BusDisciplined (idle .idle) ∧ (idle .idle).busy = false ∧
      ∃ t, step (idle .idle) = .next t ∧ t.busy = false ∧ t.fault = 0) ∧
    (BusDisciplined responding ∧ responding.busy = true ∧
      ∃ t, step responding = .next t ∧ t.busy = false ∧ t.fault = 0 ∧ t.respValid = true) ∧
    (BusDisciplined (idle (.now 0x320000000000)) ∧ ∃ t, step (idle (.now 0x320000000000)) = .next t ∧ t.fault ≠ 0) :=
  ⟨⟨midRead_disciplined, ⟨_, rfl, rfl, rfl⟩, (by intro rest h; cases h)⟩,
    ⟨idle_disciplined _, rfl, ⟨_, rfl, rfl⟩⟩, ⟨idle_disciplined _, rfl, ⟨_, rfl, rfl, rfl⟩⟩,
    ⟨responding_disciplined, rfl, ⟨_, rfl, rfl, rfl, rfl⟩⟩, ⟨idle_disciplined _, ⟨_, rfl, by decide⟩⟩⟩

/-- A primitive in the middle of a script, and a script at its end. -/
theorem witness_EveryPrimitiveStepCompletes :
    midRead.opstep ≤ (plan .getReady midRead.pollCount).length ∧ TimerDutiful midRead ∧
    (plan .getReady midRead.pollCount)[midRead.opstep]? = some .send ∧
    (running 4 [0x31]).opstep = (plan .getReady (running 4 [0x31]).pollCount).length := by
  refine ⟨by decide, rfl, by decide, by decide⟩

/-- The premise "with the chip constants of R7", with either position of START: FrameBytesOfEveryAddress,
FrameViewReadsBackEveryFrame, DecodeOfEncodeIsTheInstruction and the last clauses of the shapes of a result. -/
theorem witness_chipConstants :
    Params.default.chip = .default ∧ ({ Params.default with start := .bit6 } : Params).chip = .default ∧
    Chip.default.startMode = 0xC0 ∧ Chip.default.read = 0x01 ∧ Chip.default.coherent = true := by decide

theorem witness_CommandFrameKeepsSixBits : (7 : Byte) < 8 ∧ Params.default.start = .bit7 := by decide

theorem witness_DecodeOfEncodeIsTheInstruction :
    wellFormed (.setGain 255) = true ∧ wellFormed (.cmdRate 7) = true ∧ wellFormed (.setSOC 0xFFFFFF) = true := by decide

/-- Operands at the ends of their fields, for this statement and for RequestOf; every op's own word stands in a decode
test above. -/
theorem witness_RequestWordsNameTheirOperation :
    (0x22FF01000000 : ReqWord).extractLsb' 46 2 = 0 ∧ ((0x22FF01000000 : ReqWord).extractLsb' 40 6).toNat = 0x22 ∧
    ((0x22FF01000000 : ReqWord).extractLsb' 32 8).toNat = 255 ∧ (0x22FF01000000 : ReqWord).getLsbD 24 = true ∧
    (0x22FF01000000 : ReqWord).extractLsb' 0 24 = 0 := by decide

theorem witness_IllegalRequestWords :
    (idle (.now 0x370000000000)).hostIn = .now 0x370000000000 :: [] ∧ (idle (.now 0x370000000000)).fault = 0 ∧
    (idle (.now 0x370000000000)).busy = false ∧
    ((0x370000000000 : ReqWord).extractLsb' 40 6).toNat ∈
      [0x07, 0x0E, 0x0F, 0x1E, 0x1F, 0x24, 0x25, 0x26, 0x27, 0x32, 0x33, 0x34, 0x35, 0x36, 0x37] ∧
    (0xC80000000000 : ReqWord).extractLsb' 46 2 ≠ 0 := by decide

/-- setGain 7 with every ignored bit set and with none. -/
theorem witness_IgnoredBitsNeverMatter :
    (0x280700000000 : ReqWord).extractLsb' 40 8 = (0x2807FFFFFFFF : ReqWord).extractLsb' 40 8 ∧
    (0x280700000000 : ReqWord).extractLsb' 32 8 = (0x2807FFFFFFFF : ReqWord).extractLsb' 32 8 ∧
    ((0x280700000000 : ReqWord).extractLsb' 40 6).toNat = 0x28 ∧ (0x280700000000 : ReqWord) ≠ 0x2807FFFFFFFF := by decide

/-- The last step of a byte read: ReadByteFrames and the getters of one byte. -/
theorem witness_readsByte : (running 4 [0x31]).opstep = 4 ∧ (running 4 [0x31]).rx = [0x31] := ⟨rfl, rfl⟩

/-- The last step of a triple read: ReadTripleFrames and CalibrationRegisterGetters. -/
theorem witness_readsTriple :
    (running 6 [0x80, 0, 1]).opstep = 6 ∧ (running 6 [0x80, 0, 1]).rx = [0x80, 0, 1] := ⟨rfl, rfl⟩

/-- The last steps of a byte write, a triple write, a command and a read-modify-write. -/
theorem witness_writes :
    (running 4 []).opstep = 4 ∧ (running 6 []).opstep = 6 ∧ (running 3 []).opstep = 3 ∧ (running 8 [0x1E]).opstep = 8 :=
  ⟨rfl, rfl, rfl, rfl⟩

theorem witness_CommandFramesSendOneByte : 7 < 8 ∧ wellFormed (.cmdRate 7) = true := by decide

/-- The state of NeedsBegin: a request before `begin`. -/
theorem witness_needsBegin :
    ({ State.reset with hostIn := [.now 0x290000000000] } : State).hostIn = .now 0x290000000000 :: [] ∧
    State.reset.fault = 0 ∧ State.reset.busy = false ∧ State.reset.phase = .uninitialized ∧
    decodeRequest 0x290000000000 = .ok .getGain := by decide

theorem witness_SetConvModeWritesMirrorAndBit :
    AtStart (running 0 []) ∧ (running 0 []).opstep = 0 ∧ (running 8 [0x55]).opstep = 8 := ⟨⟨rfl, rfl, rfl⟩, rfl, rfl⟩

/-- The last pin that exists and the first that does not. -/
theorem witness_gpio : 3 < 4 ∧ 4 ≤ 4 ∧ (running 0 []).opstep = 0 := by decide

theorem witness_CalibrationsCommandAndSettle :
    AtStart (running 0 []) ∧ TimerDutiful (running 0 []) ∧ (running 4 []).opstep = 4 := ⟨⟨rfl, rfl, rfl⟩, rfl, rfl⟩

/-- Each instruction that waits, at its delay; for the last poll interval of a `read` that has counted two. -/
theorem witness_SettleWaitStallsUntilTheTimerReports :
    (∃ e, delayDue .selfCal (running 3 []) = some e) ∧ (∃ e, delayDue .sysOffsetCal (running 3 []) = some e) ∧
    (∃ e, delayDue .sysGainCal (running 3 []) = some e) ∧ (∃ e, delayDue .beginOp (running 16 []) = some e) ∧
    delayDue .readOp { running 3 [] with pollCount := 2 } = some (.delayUs 1) :=
  ⟨⟨_, rfl⟩, ⟨_, rfl⟩, ⟨_, rfl⟩, ⟨_, rfl⟩, rfl⟩

/-- Two reports of "not yet" and then "done"; one of "not yet"; a timer that does its duty; one that never completes; a
reentrant request. -/
theorem witness_SettleWaitStallsUntilTheTimerReports_reports :
    (running 3 []).waiting = false ∧
    ({ running 3 [] with timerIn := [.notYet, .notYet, .done] } : State).timerIn = List.replicate 2 .notYet ++ .done :: [] ∧
    ({ running 3 [] with timerIn := [.notYet] } : State).timerIn = .notYet :: [] ∧ TimerDutiful (running 3 []) ∧
    ({ running 3 [] with timerIn := [.never] } : State).timerIn = .never :: [] ∧
    ({ running 3 [] with waiting := true, hostIn := [.now 0] } : State).waiting = true ∧
    ({ running 3 [] with waiting := true, hostIn := [.now 0] } : State).hostIn = .now 0 :: [] ∧
    (running 3 []).fault = 0 ∧ (running 3 []).busy = true := ⟨rfl, rfl, rfl, rfl, rfl, rfl, rfl, rfl, rfl⟩

theorem witness_BeginEntersEachPhaseWithItsStep :
    (running 0 []).opstep = 0 ∧ (running 16 []).opstep = 16 ∧ TimerDutiful (running 16 []) ∧
    (running 19 []).opstep = 19 := ⟨rfl, rfl, rfl, rfl⟩

theorem witness_BeginRunsTheWholeScript :
    AtStart (running 0 []) ∧ TimerDutiful (running 0 []) ∧ (running 20 []).opstep = 20 := ⟨⟨rfl, rfl, rfl⟩, rfl, rfl⟩

theorem witness_EndPowersDownAndTearsDown :
    AtStart (running 0 []) ∧ (running 3 []).opstep = 3 ∧ (running 4 []).opstep = 4 := ⟨⟨rfl, rfl, rfl⟩, rfl, rfl⟩

theorem witness_SetRateCommandsAndRemembers : AtStart (running 0 []) ∧ (running 3 []).opstep = 3 :=
  ⟨⟨rfl, rfl, rfl⟩, rfl⟩

/-- Ready samples 1, 1, 0. -/
theorem witness_ReadPollsThenReadsData :
    AtStart polling ∧ polling.pollCount = 0 ∧
    polling.readyIn = List.replicate 2 (!polling.cfg.readyAsserted) ++ polling.cfg.readyAsserted :: [true] ∧
    (∀ r ∈ polling.timerIn.take 2, r = .done) ∧ (∀ N, polling.cfg.readTimeout = some N → 2 < N) ∧
    (running 7 [0x80, 0, 1]).opstep = 2 * (running 7 [0x80, 0, 1]).pollCount + 7 ∧
    (running 7 [0x80, 0, 1]).rx = [0x80, 0, 1] ∧
    ({ polling with cfg := { Params.default with readTimeout := some 1 } } : State).cfg.readTimeout = some 1 ∧
    polling.opstep = 2 * polling.pollCount ∧ polling.readyIn = true :: [true, false, true] ∧
    true ≠ polling.cfg.readyAsserted ∧ 1 ≤ polling.pollCount + 1 :=
  ⟨⟨rfl, rfl, rfl⟩, rfl, rfl, (by intro r h; cases h), (by intro N h; cases h), rfl, rfl, rfl, rfl, rfl, by decide, by decide⟩

theorem witness_ReadNeverCompletesOnAnUnassertedLine :
    polling.opstep = 0 ∧ polling.waiting = false ∧ polling.pollCount = 0 ∧
    polling.readyIn = List.replicate 2 (!polling.cfg.readyAsserted) ++ [false, true] ∧
    (∀ r ∈ polling.timerIn.take 2, r = .done) ∧ polling.cfg.readTimeout = none ∧
    ({ running 1 [] with pollCount := 1, timerIn := [.never] } : State).opstep + 1 = 2 * 1 :=
  ⟨rfl, rfl, rfl, rfl, (by intro r h; cases h), rfl, rfl⟩

theorem witness_ScriptedAnswersAreReceivedInOrder :
    (running 0 []).dev = .oracle (0xA5 :: []) ∧ polling.readyIn = true :: [true, false, true] := ⟨rfl, rfl⟩

/-- The machine with RefDev at the start of an operation, the ready line asserted. -/
def onRefDev : State := { running 0 [] with dev := .ref refDev, readyIn := [false] }

theorem witness_ReferenceDeviceReadsBackWhatIsWritten :
    AtStart onRefDev ∧ onRefDev.dev = .ref refDev ∧ refDev.link = .frame ∧ onRefDev.cfg.chip = .default ∧ 3 < 4 ∧
    onRefDev.pollCount = 0 ∧ onRefDev.readyIn = onRefDev.cfg.readyAsserted :: [] ∧ TimerDutiful onRefDev :=
  ⟨⟨rfl, rfl, rfl⟩, rfl, rfl, rfl, by decide, rfl, rfl, rfl⟩

theorem witness_SettingAndResettingRestoresOtherBits :
    AtStart onRefDev ∧ onRefDev.dev = .ref refDev ∧ refDev.link = .frame ∧ onRefDev.cfg.chip = .default ∧
    (Instr.setConvMode, (0x02 : Byte)) ∈ [(Instr.setLineFreq, (0x80 : Byte)), (.setInputRange, 0x40),
      (.setClockSource, 0x20), (.setRefBuf, 0x10), (.setSigBuf, 0x08), (.setFormat, 0x04), (.setConvMode, 0x02)] :=
  ⟨⟨rfl, rfl, rfl⟩, rfl, rfl, rfl, by simp⟩

/-- Steps that change the phase: the acceptance of `begin`, and the step of `begin`, of a calibration, of `setRate` and
of `end` that does. -/
theorem witness_PhaseChangesOnlyAsTheTableSays :
    (∃ t, step { State.reset with hostIn := [.now 0] } = .next t ∧ t.phase ≠ State.reset.phase) ∧
    (∃ t, step { running 16 [] with curReq := some 0, phase := .configuring } = .next t ∧ t.phase = .calibrated) ∧
    (∃ t, step { running 19 [] with curReq := some 0, phase := .calibrated } = .next t ∧ t.phase = .converting) ∧
    (∃ t, step { running 3 [] with curReq := some 0x030000000000 } = .next t ∧ t.phase = .calibrated) ∧
    (∃ t, step { running 2 [] with curReq := some 0x060500000000, phase := .calibrated } = .next t ∧
      t.phase = .converting) ∧
    (∃ t, step { running 4 [] with curReq := some 0x010000000000 } = .next t ∧ t.phase = .uninitialized) :=
  ⟨⟨_, rfl, by decide⟩, ⟨_, rfl, rfl⟩, ⟨_, rfl, rfl⟩, ⟨_, rfl, rfl⟩, ⟨_, rfl, rfl⟩, ⟨_, rfl, rfl⟩⟩

/-- A step that writes each mirror: the first of `setRate 5` and of `setConvMode true`. -/
theorem witness_MirrorsHaveTheirWritersOnly :
    (∃ t, step { running 0 [] with curReq := some 0x060500000000 } = .next t ∧ t.rateMirror = some 5) ∧
    (∃ t, step { running 0 [] with curReq := some 0x1C0001000000 } = .next t ∧ t.scycleMirror = some true) ∧
    ∀ rest, (running 0 []).hostIn ≠ .reset :: rest := ⟨⟨_, rfl, rfl⟩, ⟨_, rfl, rfl⟩, (by intro rest h; cases h)⟩

/-- Two different states that agree but for the mirrors. -/
theorem witness_MirrorsInfluenceNothing :
    eraseMirrors midRead = eraseMirrors { midRead with rateMirror := some 5 } ∧
    midRead.rateMirror ≠ ({ midRead with rateMirror := some 5 } : State).rateMirror := ⟨rfl, by decide⟩

theorem witness_BusDisciplineIsKept : BusDisciplined midRead ∧ ∃ t, step midRead = .next t :=
  ⟨midRead_disciplined, ⟨_, rfl⟩⟩

theorem witness_BusConfigurationIsKept : BusConfigured midRead ∧ ∃ t, step midRead = .next t :=
  ⟨midRead_configured, ⟨_, rfl⟩⟩

/-- A step that exchanges a byte; and one that samples the ready line. -/
theorem witness_ExchangeOnlyUnderChipSelectAndConfiguration :
    (BusDisciplined midRead ∧ BusConfigured midRead ∧
      ∃ t, step midRead = .next t ∧ t.trace = midRead.trace ++ [.xfer 0xC1 0xA5]) ∧
    (BusDisciplined polling ∧ BusConfigured polling ∧
      ∃ t, step polling = .next t ∧ t.trace = polling.trace ++ [.ready true]) := by
  refine ⟨⟨midRead_disciplined, midRead_configured, ⟨_, rfl, rfl⟩⟩, ⟨?_, fun _ => ?_, ⟨_, rfl, rfl⟩⟩⟩
  · refine ⟨by decide, by decide, by decide, fun _ h => absurd h (by decide), fun _ => ⟨.readOp, by decide, ?_⟩⟩
    exact ⟨by decide, by decide, by decide, by decide⟩
  · exact ⟨by decide, by decide, fun _ => ⟨by decide, .readOp, by decide, .inr ⟨by decide, by decide⟩⟩⟩

theorem witness_NoStopFromADisciplinedState :
    BusDisciplined midRead ∧ midRead.fault = 0 ∧ timerReport midRead ≠ .never := ⟨midRead_disciplined, rfl, by decide⟩

end Sys2Proof.Tests
end

/-! ## The scope family (00_scope.md): what one step of the Block is

PROOFS. A step runs the instruction in flight (R13, R36), and it is at most one event and one pair (R13, R36, R37). -/

namespace Sys2Proof.Machine

/-! ### The step of a Block to which nothing is presented -/

/-- Without a fault, a reset or a presentation, a busy Block runs the instruction in flight (R13, R36). -/
theorem step_of_inFlight {s : State} {i : Instr} (hf : s.fault = 0) (hb : s.busy = true) (hr : resetNow s = false)
    (hq : requestNow s = none) (hi : inFlight s = some i) : step s = exec i (beginStep s) := by
  simp [step, hf, hb, hr, hq, hi]

/-- Without a fault, a reset or a presentation, an idle Block waits (R341). -/
theorem step_of_idle {s : State} (hf : s.fault = 0) (hb : s.busy = false) (hr : resetNow s = false)
    (hq : requestNow s = none) : step s = .next (beginStep s) := by
  simp [step, hf, hb, hr, hq]

theorem resetNow_eq_false_iff (s : State) : resetNow s = false ↔ ∀ rest, s.hostIn ≠ .reset :: rest := by
  unfold resetNow
  split <;> simp_all

/-- While the Block is busy, only `now` presents (R89). -/
theorem requestNow_of_busy {s : State} (hb : s.busy = true) (hn : ∀ w rest, s.hostIn ≠ .now w :: rest) :
    requestNow s = none := by
  unfold requestNow
  split <;> simp_all

/-- While the Block is busy and the Host neither presents nor resets, a step takes an `idle` move and leaves every other
move standing (notes/assumptions/5.md). -/
theorem beginStep_of_busy {s : State} (hb : s.busy = true) (hn : ∀ w rest, s.hostIn ≠ .now w :: rest)
    (hr : ∀ rest, s.hostIn ≠ .reset :: rest) :
    beginStep s = { s with
      respValid := false
      hostIn    := (match s.hostIn with | .idle :: rest => rest | h => h) } := by
  rcases hh : s.hostIn with _ | ⟨_ | w | w | _, rest⟩
  case nil => simp [beginStep, hh]
  case cons.idle => simp [beginStep, hh]
  case cons.now => exact absurd hh (hn w rest)
  case cons.whenFree => simp [beginStep, hh, hb]
  case cons.reset => exact absurd hh (hr rest)

theorem inFlight_of_request {s : State} {w : ReqWord} {i : Instr} (hf : s.framer = none) (hc : s.curReq = some w)
    (hd : decodeRequest w = .ok i) : inFlight s = some i := by
  simp [inFlight, hf, hc, hd, Except.toOption]

theorem inFlight_of_framer {s : State} {bytes : List Byte} {i : Instr} (hf : s.framer = some bytes)
    (hd : decode s.cfg (.mosi bytes) = .ok i) : inFlight s = some i := by
  simp [inFlight, hf, hd, Except.toOption]

/-- Settles O8: the step's branches, with the Host's move of this step taken. -/
theorem stepRunsTheInstructionInFlight : Obligations.StepRunsTheInstructionInFlight := by
  refine ⟨fun s i hf hb hn hr hsrc => ?_, fun s rest hf hb hmove => ?_⟩
  · have hi : inFlight s = some i := by
      rcases hsrc with ⟨hfr, w, hc, hd⟩ | ⟨bytes, hfr, hd⟩
      · exact inFlight_of_request hfr hc hd
      · exact inFlight_of_framer hfr hd
    have hstep := step_of_inFlight hf hb ((resetNow_eq_false_iff s).mpr hr) (requestNow_of_busy hb hn) hi
    exact hstep.trans (congrArg (exec i) (beginStep_of_busy hb hn hr))
  · rcases hmove with ⟨hh, rfl⟩ | hh
    all_goals
      rw [step_of_idle hf hb (by simp [resetNow, hh]) (by simp [requestNow, hh])]
      simp [beginStep, hh]

/-! ### One primitive event in a step -/

/-- What a step from `s` to `t` may add and where it leaves `opstep`: the conclusion of OnePrimitiveEventPerStep, with a
name for each part. -/
structure OneEvent (s t : State) : Prop where
  events   : t.trace = s.trace ∨ ∃ e, t.trace = s.trace ++ [e]
  pairs    : t.rsp = s.rsp ∨
    ∃ w, s.curReq = some w ∧ t.rsp = s.rsp ++ [(w, t.respValue)] ∧ t.respValid = true ∧ t.busy = false
  cfg      : t.cfg = s.cfg
  goesOn   : s.busy = true → t.busy = true → t.opstep = s.opstep + 1 ∨ (t.opstep = s.opstep ∧ t.waiting = true)
  accepted : s.busy = false → t.busy = true → t.opstep = 0
  ended    : s.busy = true → t.busy = false → t.fault = 0 → t.opstep = 0 ∧ t.respValid = true
  waited   : s.busy = false → t.busy = false → t.fault = 0 → t.opstep = s.opstep
  faulted  : t.fault ≠ 0 → t.opstep = s.opstep ∧ t.respValid = false
  valid    : t.respValid = true → s.busy = true ∧ t.busy = false ∧ t.fault = 0

/-- `OneEvent` looks at these six fields of the state before the step only. -/
theorem OneEvent.congr {s s' t : State} (h : OneEvent s' t) (trace : s'.trace = s.trace) (rsp : s'.rsp = s.rsp)
    (curReq : s'.curReq = s.curReq) (cfg : s'.cfg = s.cfg) (busy : s'.busy = s.busy) (opstep : s'.opstep = s.opstep) :
    OneEvent s t := by
  obtain ⟨h1, h2, h3, h4, h5, h6, h7, h8, h9⟩ := h
  rw [trace] at h1
  rw [rsp, curReq] at h2
  rw [cfg] at h3
  rw [busy] at h4 h5 h6 h7 h9
  rw [opstep] at h4 h7 h8
  exact ⟨h1, h2, h3, h4, h5, h6, h7, h8, h9⟩

/-- Fault entry emits at most the release of chip select (R305). -/
theorem oneEvent_raise (f : BlockFault) (s : State) : OneEvent s (raise f s) := by
  rw [raise_spec]
  have hf : f.code ≠ 0 := f.code_range.1
  constructor
  case events => cases s.cs <;> simp
  case pairs => exact .inl rfl
  case cfg => rfl
  case ended => exact fun _ _ h0 => absurd h0 hf
  all_goals simp

theorem oneEvent_accept {w : ReqWord} {i : Instr} {s : State} (hf : s.fault = 0) (hv : s.respValid = false)
    (hb : s.busy = false) : OneEvent s (accept w i s) := by
  constructor <;> simp [accept, hf, hv, hb]

/-- A presentation is an acceptance or a fault (R170). -/
theorem oneEvent_present {w : ReqWord} {s : State} (hf : s.fault = 0) (hv : s.respValid = false) :
    OneEvent s (present w s) := by
  rcases present_spec w s with ⟨_, h⟩ | ⟨_, _, h⟩ | ⟨_, _, h⟩ | ⟨hb, i, _, _, h⟩ <;> rw [h]
  case inr.inr.inr => exact oneEvent_accept hf hv hb
  all_goals exact oneEvent_raise _ s

/-- A step that changes nothing of the Block but lowers resp_valid. -/
theorem oneEvent_wait {s : State} (hf : s.fault = 0) (hv : s.respValid = false) (hb : s.busy = false) :
    OneEvent s s := by
  constructor <;> simp [hf, hv, hb]

theorem oneEvent_respond {v : Word32} {final : List Assign} {s : State} (hf : s.fault = 0) (hb : s.busy = true) :
    OneEvent s (respond v (assignAll final s)) := by
  constructor
  case pairs => cases hc : s.curReq <;> simp [responsePairs, hc]
  all_goals simp [hf, hb]

theorem Stepped.oneEvent {m : Micro} {s t : State} (h : Stepped m s t) (hf : s.fault = 0) (hv : s.respValid = false)
    (hb : s.busy = true) : OneEvent s t := by
  have htrace : t.trace = s.trace ∨ ∃ e, t.trace = s.trace ++ [e] := by
    rcases h.trace with ⟨_, _, _, ht⟩ | ⟨e, ht, _⟩
    · exact .inl ht
    · exact .inr ⟨e, ht⟩
  constructor
  case events => exact htrace
  case pairs => exact .inl h.kept.rsp
  case cfg => exact h.kept.cfg
  all_goals simp [h.opstep, h.busy, h.fault, h.respValid, hf, hv, hb]

theorem Stalled.oneEvent {m : Micro} {s t : State} (h : Stalled m s t) (hf : s.fault = 0) (hv : s.respValid = false)
    (hb : s.busy = true) : OneEvent s t := by
  constructor
  case events => exact h.trace.imp_right fun ⟨e, ht, _⟩ => ⟨e, ht⟩
  case pairs => exact .inl h.kept.rsp
  case cfg => exact h.kept.cfg
  all_goals simp [h.opstep, h.busy, h.fault, h.respValid, h.waits, hf, hv, hb]

/-- A timed-out sample emits its level only: chip select was deasserted. -/
theorem TimedOutAt.oneEvent {m : Micro} {s t : State} (h : TimedOutAt m s t) (hcs : s.cs = false) : OneEvent s t := by
  obtain ⟨l, ht⟩ := h.trace
  constructor
  case events => exact .inr ⟨.ready l, by simpa [hcs] using ht⟩
  case pairs => exact .inl h.kept.rsp
  case cfg => exact h.kept.cfg
  all_goals simp [h.opstep, h.busy, h.fault, h.respValid]

/-- An event outside transactions is due only outside a transaction (R76). -/
theorem outside_of_beatMove_other {q q' : BusPos} (h : beatMove q .other = some q') : q = .outside := by
  cases q
  case outside => rfl
  all_goals simp [beatMove] at h

/-- Where an event outside transactions is due, chip select is deasserted (R76, R77). -/
theorem Underway.cs_of_other {i : Instr} {s : State} (h : Underway i s)
    (ho : (plan i s.pollCount)[s.opstep]? = some .other) : s.cs = false := by
  obtain ⟨_, htrace, hcs, _⟩ := h
  obtain ⟨q, q', hq, hmove⟩ := beatMove_of_beatRun (beatRun_plan i s.pollCount) ho
  obtain rfl := outside_of_beatMove_other hmove
  rw [htrace, hq] at hcs
  exact (Option.some.inj hcs).symm

/-- The beat of a script's primitive stands in the plan at its position. -/
theorem Runs.plan_getElem? {i : Instr} {s s' : State} {script : List Micro} {final : List Assign} {v : Word32}
    {k : Nat} {m : Micro} (R : Runs i s script final v s') (h : script[k]? = some m) :
    (plan i s.pollCount)[k]? = some m.prim.beat := by
  rw [← R.beats, List.getElem?_map, h]
  rfl

/-- The step of an instruction under way: a primitive done, stalled or timed out, or the `respond`. -/
theorem oneEvent_exec {i : Instr} {s t : State} (hu : Underway i s) (hf : s.fault = 0) (hv : s.respValid = false)
    (hb : s.busy = true) (h : exec i s = .next t) : OneEvent s t := by
  obtain ⟨script, final, v, n, R, hstep⟩ := exec_next h
  have hd : OneEvent { s with draws := n } t := by
    rcases hstep with ⟨m, hm, hdone | hstall | hout⟩ | ⟨_, rfl⟩
    · exact hdone.oneEvent hf hv hb
    · exact hstall.oneEvent hf hv hb
    · have ho := R.plan_getElem? hm
      rw [hout.sample] at ho
      exact hout.oneEvent (hu.cs_of_other ho)
    · exact oneEvent_respond hf hb
  exact hd.congr rfl rfl rfl rfl rfl rfl

/-- A disciplined Block's step without a reset, from the state whose Host move is taken. -/
theorem oneEvent_step {s t : State} (hd : BusDisciplined s) (h : step s = .next t) (hr : resetNow s = false) :
    OneEvent (beginStep s) t := by
  obtain ⟨_, _, _, _, hbusy⟩ := hd
  rcases step_cases s with ⟨hr', hs⟩ | ⟨_, _, hs⟩ | ⟨_, hf, w, _, hs⟩ |
    ⟨_, hf, _, hb, ⟨i, hi, hs⟩ | ⟨_, hs⟩⟩ | ⟨_, hf, _, hb, hs⟩ <;> rw [h] at hs
  · exact absurd (hr'.symm.trans hr) (by decide)
  · cases hs
  · obtain rfl := Host.Outcome.next.inj hs
    exact oneEvent_present hf rfl
  · obtain ⟨j, hj, hu⟩ := hbusy hb
    obtain rfl : i = j := Option.some.inj (hi.symm.trans hj)
    exact oneEvent_exec (s := beginStep s) hu hf rfl hb hs.symm
  · cases hs
  · obtain rfl := Host.Outcome.next.inj hs
    exact oneEvent_wait hf rfl hb

/-- Settles O10, by the kinds of step of a disciplined Block. -/
theorem onePrimitiveEventPerStep : Obligations.OnePrimitiveEventPerStep := by
  intro s t hd h hr
  obtain ⟨events, pairs, cfg, goesOn, accepted, ended, waited, faulted, valid⟩ :=
    oneEvent_step hd h ((resetNow_eq_false_iff s).mpr hr)
  exact ⟨events, pairs, cfg, goesOn, accepted, ended, waited, faulted, valid⟩

end Sys2Proof.Machine

/-! ## The state family (10_state.md): the bus configuration, chip select, the mirrors and the delays

PROOFS. The bus is configured while an operation uses it (R32, R39), an exchange stands under chip select (R33, R39), the
mirrors are written by their operations and read by nothing (R34, R35), and a delay stalls the Block (R40). -/

namespace Sys2Proof.Machine

/-! ### The branches of a step and of a presentation, each by its condition -/

theorem step_of_reset {s : State} (hr : resetNow s = true) : step s = .next (blockReset (beginStep s)) := by
  simp [step, hr]

/-- A faulted Block takes no step but a reset (R305, R308). -/
theorem step_of_fault {s : State} (hf : s.fault ≠ 0) (hr : resetNow s = false) : step s = .fault .halted := by
  simp only [step, hr, Bool.false_eq_true, if_false, if_pos hf]

theorem step_of_request {s : State} {w : ReqWord} (hf : s.fault = 0) (hr : resetNow s = false)
    (hq : requestNow s = some w) : step s = .next (present w (beginStep s)) := by
  simp [step, hf, hr, hq]

theorem step_of_nothingInFlight {s : State} (hf : s.fault = 0) (hb : s.busy = true) (hr : resetNow s = false)
    (hq : requestNow s = none) (hi : inFlight s = none) : step s = .fault .nothingInFlight := by
  simp [step, hf, hb, hr, hq, hi]

/-- A request presented to a busy Block (R303). -/
theorem present_of_busy {w : ReqWord} {s : State} (hb : s.busy = true) :
    present w s = raise (.requestWhileBusy w) s := by
  simp [present, hb]

/-- A word that is no request (R304). -/
theorem present_of_error {w : ReqWord} {s : State} {e : DecodeError} (hb : s.busy = false)
    (hd : decodeRequest w = .error e) : present w s = raise (.illegalRequest w) s := by
  simp [present, hb, hd]

/-- A request other than `begin` in `Uninitialized` (R302). -/
theorem present_of_uninitialized {w : ReqWord} {i : Instr} {s : State} (hb : s.busy = false)
    (hd : decodeRequest w = .ok i) (hp : s.phase = .uninitialized) (hi : i ≠ .beginOp) :
    present w s = raise (.notInitialized w) s := by
  simp [present, hb, hd, hp, hi]

/-- A legal request (R170). -/
theorem present_of_legal {w : ReqWord} {i : Instr} {s : State} (hb : s.busy = false)
    (hd : decodeRequest w = .ok i) (hi : s.phase = .uninitialized → i = .beginOp) :
    present w s = accept w i s := by
  simp only [present, hb, hd, Bool.false_eq_true, if_false]
  exact if_neg fun ⟨hp, hne⟩ => hne (hi hp)

/-! ### What a step of an instruction assigns, and the instruction that stays in flight -/

theorem inFlight_congr {s t : State} (framer : t.framer = s.framer) (curReq : t.curReq = s.curReq)
    (cfg : t.cfg = s.cfg) : inFlight t = inFlight s := by
  simp only [inFlight, framer, curReq, cfg]

/-- Beside a primitive, no script leaves for `Uninitialized` (R160). -/
theorem Permits.phase_ne_uninitialized {p : Params} {i : Instr} {k : Nat} {q : Phase} (h : Permits p i k (.phase q)) :
    q ≠ .uninitialized := by
  cases i <;> simp only [Permits] at h
  case beginOp => rcases h with ⟨_, rfl⟩ | ⟨_, rfl⟩ | ⟨_, rfl⟩ <;> decide
  case selfCal | sysOffsetCal | sysGainCal | setRate => obtain ⟨_, rfl⟩ := h; decide

theorem AssignedBy.phase_ne_uninitialized {as : List Assign} {s t : State} {p : Params} {i : Instr} {k : Nat}
    (h : AssignedBy as s t) (has : ∀ a ∈ as, Permits p i k a) (hs : s.phase ≠ .uninitialized) :
    t.phase ≠ .uninitialized := by
  rcases h.phase with heq | hmem
  · rw [heq]; exact hs
  · exact (has _ hmem).phase_ne_uninitialized

/-- A script has as many primitives as its plan has beats. -/
theorem Runs.length_eq {i : Instr} {s s' : State} {script : List Micro} {final : List Assign} {v : Word32}
    (R : Runs i s script final v s') : script.length = (plan i s.pollCount).length := by
  rw [← R.beats, List.length_map]

/-- What a completed primitive does is the same whatever free values have been drawn. -/
theorem Stepped.of_draws {m : Micro} {s t : State} {n : Nat} (h : Stepped m { s with draws := n } t) :
    Stepped m s t := by
  obtain ⟨⟨k1, k2, k3, k4⟩, h2, h3, h4, h5, h6, h7, ⟨a1, a2, a3⟩, h9, h10, h11, h12, h13⟩ := h
  exact ⟨⟨k1, k2, k3, k4⟩, h2, h3, h4, h5, h6, h7, ⟨a1, a2, a3⟩, h9, h10, h11, h12, h13⟩

/-- A stall is the same whatever free values have been drawn. -/
theorem Stalled.of_draws {m : Micro} {s t : State} {n : Nat} (h : Stalled m { s with draws := n } t) :
    Stalled m s t := by
  obtain ⟨⟨k1, k2, k3, k4⟩, h2, h3, h4, h5, h6, h7, ⟨a1, a2, a3⟩, h9, h10, h11, h12, h13, h14, h15, h16⟩ := h
  exact ⟨⟨k1, k2, k3, k4⟩, h2, h3, h4, h5, h6, h7, ⟨a1, a2, a3⟩, h9, h10, h11, h12, h13, h14, h15, h16⟩

/-- A timeout is the same whatever free values have been drawn. -/
theorem TimedOutAt.of_draws {m : Micro} {s t : State} {n : Nat} (h : TimedOutAt m { s with draws := n } t) :
    TimedOutAt m s t := by
  obtain ⟨⟨k1, k2, k3, k4⟩, h2, ⟨a1, a2, a3⟩, h4, h5, h6, h7, h8, h9, h10, h11⟩ := h
  exact ⟨⟨k1, k2, k3, k4⟩, h2, ⟨a1, a2, a3⟩, h4, h5, h6, h7, h8, h9, h10, h11⟩

/-- `exec_next`, with what a primitive step does said of `s` itself. -/
theorem exec_prim_or_respond {i : Instr} {s t : State} (h : exec i s = .next t) :
    ∃ script final v n, Runs i s script final v { s with draws := n } ∧
      ((∃ m, script[s.opstep]? = some m ∧ (Stepped m s t ∨ Stalled m s t ∨ TimedOutAt m s t)) ∨
       (s.opstep = script.length ∧ t = respond v (assignAll final { s with draws := n }))) := by
  obtain ⟨script, final, v, n, R, ⟨m, hm, hstep⟩ | hend⟩ := exec_next h
  · exact ⟨script, final, v, n, R,
      .inl ⟨m, hm, hstep.imp Stepped.of_draws (Or.imp Stalled.of_draws TimedOutAt.of_draws)⟩⟩
  · exact ⟨script, final, v, n, R, .inr hend⟩

/-! ### The bus is configured while an operation uses it (R39) -/

/-- What `BusConfigured` says of the instruction `i` in flight. -/
def ConfiguredFor (i : Instr) (s : State) : Prop :=
  BusNotNeeded i s ∨ (s.busCfg ≠ none ∧ ¬ (i = .endOp ∧ 4 ≤ s.opstep))

theorem busConfigured_of_fault {s : State} (hf : s.fault ≠ 0) : BusConfigured s := fun h0 => absurd h0 hf

theorem busConfigured_of_idle {s : State} (hfr : s.framer = none) (hb : s.busy = false)
    (hcfg : s.phase = .uninitialized ↔ s.busCfg = none) : BusConfigured s :=
  fun _ => ⟨hfr, fun _ => hcfg, by simp [hb]⟩

theorem busConfigured_of_busy {s : State} {i : Instr} (hfr : s.framer = none) (hb : s.busy = true)
    (hp : s.phase ≠ .uninitialized) (hi : inFlight s = some i) (hc : ConfiguredFor i s) : BusConfigured s :=
  fun _ => ⟨hfr, by simp [hb], fun _ => ⟨hp, i, hi, hc⟩⟩

/-- `BusConfigured` of a busy Block, for the instruction known to be in flight. -/
theorem BusConfigured.of_inFlight {s : State} {i : Instr} (h : BusConfigured s) (hf : s.fault = 0) (hb : s.busy = true)
    (hi : inFlight s = some i) : s.framer = none ∧ s.phase ≠ .uninitialized ∧ ConfiguredFor i s := by
  obtain ⟨hfr, _, hbusy⟩ := h hf
  obtain ⟨hp, j, hj, hc⟩ := hbusy hb
  obtain rfl : i = j := Option.some.inj (hi.symm.trans hj)
  exact ⟨hfr, hp, hc⟩

/-- `begin` configures the bus with its first primitive, and `end` tears it down with its last (R161, R162). -/
theorem Stepped.configuredFor {i : Instr} {s s' t : State} {script : List Micro} {final : List Assign} {v : Word32}
    {m : Micro} (h : Stepped m s t) (R : Runs i s script final v s') (hm : script[s.opstep]? = some m)
    (hc : ConfiguredFor i s) : ConfiguredFor i t := by
  rcases hc with (⟨rfl, h0⟩ | ⟨rfl, h4, _⟩) | ⟨hcfg, hend⟩
  · have hprim : m.prim = .cfgBus := (R.cfgBus _ m hm).mpr ⟨rfl, h0⟩
    exact .inr ⟨by simp [h.busCfg, hprim], by simp⟩
  · have hlt : s.opstep < script.length := (List.getElem?_eq_some_iff.mp hm).1
    simp [R.length_eq, h4, plan, planCommand] at hlt
  · by_cases ht : m.prim = .teardown
    · obtain ⟨rfl, h3⟩ := (R.teardown _ m hm).mp ht
      exact .inl (.inr ⟨rfl, by rw [h.opstep, h3], by simp [h.busCfg, ht]⟩)
    · refine .inr ⟨?_, fun ⟨he, h4⟩ => ?_⟩
      · rw [h.busCfg]
        split_ifs <;> simp [hcfg]
      · have h3 : s.opstep = 3 := by
          have := h.opstep
          have : ¬ 4 ≤ s.opstep := fun h4 => hend ⟨he, h4⟩
          omega
        exact ht ((R.teardown _ m hm).mpr ⟨he, h3⟩)

/-- A stalled delay leaves `opstep` and the configuration alone. -/
theorem Stalled.configuredFor {i : Instr} {m : Micro} {s t : State} (h : Stalled m s t) (hc : ConfiguredFor i s) :
    ConfiguredFor i t := by
  simpa only [ConfiguredFor, BusNotNeeded, h.opstep, h.busCfg] using hc

/-- When a script has ended, the phase is `Uninitialized` exactly after `end` (R160), which has torn the bus down. -/
theorem Runs.phase_at_respond {i : Instr} {s s' : State} {script : List Micro} {final : List Assign} {v : Word32}
    {n : Nat} (R : Runs i s script final v s') (hlen : s.opstep = script.length) (hp : s.phase ≠ .uninitialized)
    (hc : ConfiguredFor i s) :
    (assignAll final { s with draws := n }).phase = .uninitialized ↔ s.busCfg = none := by
  rw [R.length_eq] at hlen
  rw [R.final]
  by_cases hi : i = .endOp
  · subst hi
    have h4 : s.opstep = 4 := hlen
    have hnone : s.busCfg = none := by
      rcases hc with (⟨h, _⟩ | ⟨_, _, h⟩) | ⟨_, h⟩
      · cases h
      · exact h
      · exact absurd ⟨rfl, h4.ge⟩ h
    simp [hnone]
  · have hcfg : s.busCfg ≠ none := by
      rcases hc with (⟨rfl, h0⟩ | ⟨h, _⟩) | ⟨h, _⟩
      · simp [h0, plan] at hlen
      · exact absurd h hi
      · exact h
    simp [hi, hp, hcfg]

theorem busConfigured_exec {i : Instr} {s t : State} (hc : BusConfigured s) (hf : s.fault = 0) (hb : s.busy = true)
    (hi : inFlight s = some i) (h : exec i s = .next t) : BusConfigured t := by
  obtain ⟨hfr, hp, hci⟩ := hc.of_inFlight hf hb hi
  obtain ⟨script, final, v, n, R, ⟨m, hm, hdone | hstall | hout⟩ | ⟨hlen, rfl⟩⟩ := exec_prim_or_respond h
  · exact busConfigured_of_busy (hdone.framer.trans hfr) (hdone.busy.trans hb)
      (hdone.assigned.phase_ne_uninitialized (R.assigns _ m hm) hp)
      ((inFlight_congr hdone.framer hdone.curReq hdone.kept.cfg).trans hi) (hdone.configuredFor R hm hci)
  · have hassigned : AssignedBy (m.before ++ m.after) s t := hstall.assigned.mono (by simp)
    exact busConfigured_of_busy (hstall.framer.trans hfr) (hstall.busy.trans hb)
      (hassigned.phase_ne_uninitialized (R.assigns _ m hm) hp)
      ((inFlight_congr hstall.framer hstall.curReq hstall.kept.cfg).trans hi) (hstall.configuredFor hci)
  · exact busConfigured_of_fault (by simp [hout.fault])
  · exact busConfigured_of_idle rfl rfl (by simpa using R.phase_at_respond hlen hp hci)

/-- An accepted request finds the bus configured, unless it is `begin` (R170, R160). -/
theorem busConfigured_accept {w : ReqWord} {i : Instr} {s : State} (hc : BusConfigured s) (hf : s.fault = 0)
    (hb : s.busy = false) (hd : decodeRequest w = .ok i) (hi : s.phase = .uninitialized → i = .beginOp) :
    BusConfigured (accept w i s) := by
  obtain ⟨_, hidle, _⟩ := hc hf
  have hflight : inFlight (accept w i s) = some i := inFlight_of_request rfl rfl hd
  by_cases hbegin : i = .beginOp
  · exact busConfigured_of_busy rfl rfl (by simp [hbegin]) hflight (.inl (.inl ⟨hbegin, rfl⟩))
  · have hp : s.phase ≠ .uninitialized := fun h => hbegin (hi h)
    have hcfg : s.busCfg ≠ none := fun h => hp ((hidle hb).mpr h)
    exact busConfigured_of_busy rfl rfl (by simpa [hbegin] using hp) hflight (.inr ⟨hcfg, by simp⟩)

theorem raise_fault_ne_zero (f : BlockFault) (s : State) : (raise f s).fault ≠ 0 := by
  rw [raise_spec]
  exact f.code_range.1

theorem busConfigured_present {w : ReqWord} {s : State} (hc : BusConfigured s) (hf : s.fault = 0) :
    BusConfigured (present w s) := by
  rcases present_spec w s with ⟨_, h⟩ | ⟨_, _, h⟩ | ⟨_, _, h⟩ | ⟨hb, i, hd, hi, h⟩ <;> rw [h]
  case inr.inr.inr => exact busConfigured_accept hc hf hb hd hi
  all_goals exact busConfigured_of_fault (raise_fault_ne_zero _ _)

/-- Settles O52, by the kinds of step: a reset, a presentation, a step of the instruction in flight, waiting. -/
theorem busConfigurationIsKept : Obligations.BusConfigurationIsKept := by
  intro s t hc h
  have hc' : BusConfigured (beginStep s) := hc
  rcases step_cases s with ⟨_, hs⟩ | ⟨_, _, hs⟩ | ⟨_, hf, w, _, hs⟩ |
    ⟨_, hf, _, hb, ⟨i, hi, hs⟩ | ⟨_, hs⟩⟩ | ⟨_, hf, _, hb, hs⟩ <;> rw [h] at hs
  · obtain rfl := Host.Outcome.next.inj hs
    exact busConfigured_of_idle rfl rfl (by simp)
  · cases hs
  · obtain rfl := Host.Outcome.next.inj hs
    exact busConfigured_present hc' hf
  · exact busConfigured_exec hc' hf hb hi hs.symm
  · cases hs
  · obtain rfl := Host.Outcome.next.inj hs
    exact hc'

/-! ### An exchange stands under chip select (R33, R39) -/

/-- The event a step of an instruction appends is the one due by its plan, where `opstep` stands. -/
theorem exec_event {i : Instr} {s t : State} {e : BusEvent} (hu : Underway i s) (h : exec i s = .next t)
    (ht : t.trace = s.trace ++ [e]) :
    ∃ b, (plan i s.pollCount)[s.opstep]? = some b ∧ e.beat = if b = .keep then .send else b := by
  obtain ⟨script, final, v, n, R, ⟨m, hm, hdone | hstall | hout⟩ | ⟨_, rfl⟩⟩ := exec_prim_or_respond h
  · refine ⟨m.prim.beat, R.plan_getElem? hm, ?_⟩
    rcases hdone.trace with ⟨_, _, _, htr⟩ | ⟨e', htr, hbeat⟩
    · simp [htr] at ht
    · obtain rfl : e' = e := by simpa [ht, eq_comm] using htr
      exact hbeat
  · refine ⟨m.prim.beat, R.plan_getElem? hm, ?_⟩
    have hbeat : m.prim.beat = .other := by obtain ⟨k, hk | hk⟩ := hstall.delays <;> rw [hk] <;> rfl
    rcases hstall.trace with htr | ⟨e', htr, hother⟩
    · simp [htr] at ht
    · obtain rfl : e' = e := by simpa [ht, eq_comm] using htr
      simp [hbeat, hother]
  · have hdue := R.plan_getElem? hm
    rw [hout.sample] at hdue
    obtain ⟨l, htr⟩ := hout.trace
    obtain rfl : e = .ready l := by simpa [ht, hu.cs_of_other hdue] using htr
    exact ⟨.other, hdue, rfl⟩
  · simp at ht

/-- A presentation appends at most the release of chip select (R305). -/
theorem present_event {w : ReqWord} {s : State} {e : BusEvent} (ht : (present w s).trace = s.trace ++ [e]) :
    e = .cs false := by
  rcases present_spec w s with ⟨_, h⟩ | ⟨_, _, h⟩ | ⟨_, _, h⟩ | ⟨_, i, _, _, h⟩ <;> rw [h] at ht
  case inr.inr.inr => simp at ht
  all_goals
    rw [raise_spec] at ht
    cases hcs : s.cs
    · simp [hcs] at ht
    · simpa [hcs, eq_comm] using ht

/-- A step of a disciplined Block appends the release of chip select, or the event due by the plan of the instruction in
flight. -/
theorem step_event {s t : State} {e : BusEvent} (hd : BusDisciplined s) (h : step s = .next t)
    (ht : t.trace = s.trace ++ [e]) :
    e = .cs false ∨ (s.fault = 0 ∧ s.busy = true ∧ ∃ i b, inFlight s = some i ∧ Underway i s ∧
      (plan i s.pollCount)[s.opstep]? = some b ∧ e.beat = if b = .keep then .send else b) := by
  obtain ⟨_, _, _, _, hbusy⟩ := hd
  rcases step_cases s with ⟨_, hs⟩ | ⟨_, _, hs⟩ | ⟨_, hf, w, _, hs⟩ |
    ⟨_, hf, _, hb, ⟨i, hi, hs⟩ | ⟨_, hs⟩⟩ | ⟨_, hf, _, hb, hs⟩ <;> rw [h] at hs
  · obtain rfl := Host.Outcome.next.inj hs
    simp at ht
  · cases hs
  · obtain rfl := Host.Outcome.next.inj hs
    exact .inl (present_event ht)
  · obtain ⟨j, hj, hu⟩ := hbusy hb
    obtain rfl : i = j := Option.some.inj (hi.symm.trans hj)
    obtain ⟨b, hb', he⟩ := exec_event (s := beginStep s) hu hs.symm ht
    exact .inr ⟨hf, hb, i, b, hi, hu, hb', he⟩
  · cases hs
  · obtain rfl := Host.Outcome.next.inj hs
    simp at ht

/-- An exchange is due only inside a transaction (R76). -/
theorem inside_of_beatMove_send {q q' : BusPos} (h : beatMove q .send = some q') : q.inside = true := by
  cases q
  case outside => simp [beatMove] at h
  case selected | inData => rfl

/-- Where an exchange is due, chip select is asserted (R39, R77). -/
theorem Underway.cs_of_exchange {i : Instr} {s : State} {b : Beat} (h : Underway i s)
    (hdue : (plan i s.pollCount)[s.opstep]? = some b) (hb : b = .send ∨ b = .keep) : s.cs = true := by
  obtain ⟨_, htrace, hcs, _⟩ := h
  obtain ⟨q, q', hq, hmove⟩ := beatMove_of_beatRun (beatRun_plan i s.pollCount) hdue
  have hin : q.inside = true := by
    rcases hb with rfl | rfl
    · exact inside_of_beatMove_send hmove
    · exact inside_of_beatMove_send (beatMove_keep q ▸ hmove)
  rw [htrace, hq] at hcs
  exact (Option.some.inj hcs).symm.trans hin

/-- Where an exchange is due, the bus is configured: `begin` configures it first, and `end` tears it down last. -/
theorem ConfiguredFor.busCfg_of_exchange {i : Instr} {s : State} {b : Beat} (h : ConfiguredFor i s)
    (hdue : (plan i s.pollCount)[s.opstep]? = some b) (hb : b = .send ∨ b = .keep) : s.busCfg ≠ none := by
  rcases h with (⟨rfl, h0⟩ | ⟨rfl, h4, _⟩) | ⟨hcfg, _⟩
  · obtain rfl : Beat.other = b := by simpa [h0, plan] using hdue
    simp at hb
  · simp [h4, plan, planCommand] at hdue
  · exact hcfg

/-- The pin carries the active level exactly when chip select is asserted (R39). -/
theorem csPin_eq_active_iff (s : State) : csPin s = s.cfg.csActive ↔ s.cs = true := by
  cases hcs : s.cs <;> simp [csPin, hcs]

/-- Settles O53: an event of the instruction in flight stands where its plan says. -/
theorem exchangeOnlyUnderChipSelectAndConfiguration : Obligations.ExchangeOnlyUnderChipSelectAndConfiguration := by
  refine ⟨fun s t e hd hc h ht => ?_, csPin_eq_active_iff⟩
  rcases step_event hd h ht with rfl | ⟨hf, hb, i, b, hi, hu, hdue, hbeat⟩
  · simp
  · refine ⟨?_, fun hother => ?_⟩
    · rintro ⟨o, r, rfl⟩
      have hx : b = .send ∨ b = .keep := by cases b <;> simp_all [BusEvent.beat]
      obtain ⟨_, _, hci⟩ := hc.of_inFlight hf hb hi
      exact ⟨hu.cs_of_exchange hdue hx, hci.busCfg_of_exchange hdue hx⟩
    · have he : e.beat = .other := by rcases hother with ⟨_, rfl⟩ | ⟨_, rfl⟩ | ⟨_, rfl⟩ <;> rfl
      obtain rfl : b = .other := by cases b <;> simp_all
      exact hu.cs_of_other hdue

/-! ### The mirrors have their writers only (R34, R35) -/

/-- What a step of an instruction writes to the phase and the mirrors: assignments its script permits where `opstep`
stands, or the phase with the `respond` of `end`. -/
theorem exec_assignedBy {i : Instr} {s t : State} (h : exec i s = .next t) :
    ∃ as, AssignedBy as s t ∧
      ((∀ a ∈ as, Permits s.cfg i s.opstep a) ∨
        (as = if i = .endOp then [.phase .uninitialized] else []) ∧ s.opstep = (plan i s.pollCount).length) := by
  obtain ⟨script, final, v, n, R, ⟨m, hm, hdone | hstall | hout⟩ | ⟨hlen, rfl⟩⟩ := exec_prim_or_respond h
  · exact ⟨_, hdone.assigned, .inl (R.assigns _ m hm)⟩
  · exact ⟨m.before ++ m.after, hstall.assigned.mono (by simp), .inl (R.assigns _ m hm)⟩
  · exact ⟨m.before ++ m.after, hout.assigned.mono (by simp), .inl (R.assigns _ m hm)⟩
  · obtain ⟨hphase, hrate, hscycle⟩ := assignAll_assignedBy final { s with draws := n }
    exact ⟨final, ⟨hphase, hrate, hscycle⟩, .inr ⟨R.final, hlen.trans R.length_eq⟩⟩

/-- `begin` and `setRate` are the scripts that write rate_mirror (R34). -/
theorem Permits.rateMirror {p : Params} {i : Instr} {k : Nat} {r : BitVec 3} (h : Permits p i k (.rateMirror r)) :
    (i = .beginOp ∧ r = BitVec.ofNat 3 p.chip.defaultRate) ∨ ∃ a, i = .setRate a ∧ r = BitVec.ofNat 3 a := by
  cases i <;> simp only [Permits] at h
  case beginOp => exact .inl ⟨rfl, h.2⟩
  case setRate a => exact .inr ⟨a, rfl, h.2⟩

/-- `setConvMode` is the script that writes scycle_mirror (R35). -/
theorem Permits.scycleMirror {p : Params} {i : Instr} {k : Nat} {c : Bool} (h : Permits p i k (.scycleMirror c)) :
    i = .setConvMode c := by
  cases i <;> simp only [Permits] at h
  case setConvMode b => rw [h.2]

theorem exec_rateMirror {i : Instr} {s t : State} (h : exec i s = .next t) (hne : t.rateMirror ≠ s.rateMirror) :
    (i = .beginOp ∧ t.rateMirror = some (BitVec.ofNat 3 s.cfg.chip.defaultRate)) ∨
      ∃ a, i = .setRate a ∧ t.rateMirror = some (BitVec.ofNat 3 a) := by
  obtain ⟨as, hby, hpermits⟩ := exec_assignedBy h
  obtain ⟨r, hr, hmem⟩ := hby.rate.resolve_left hne
  rcases hpermits with hp | ⟨rfl, _⟩
  · rw [hr]
    rcases (hp _ hmem).rateMirror with ⟨hi, rfl⟩ | ⟨a, hi, rfl⟩
    · exact .inl ⟨hi, rfl⟩
    · exact .inr ⟨a, hi, rfl⟩
  · split_ifs at hmem <;> simp at hmem

theorem exec_scycleMirror {i : Instr} {s t : State} (h : exec i s = .next t) (hne : t.scycleMirror ≠ s.scycleMirror) :
    ∃ b, i = .setConvMode b ∧ t.scycleMirror = some b := by
  obtain ⟨as, hby, hpermits⟩ := exec_assignedBy h
  obtain ⟨c, hc, hmem⟩ := hby.scycle.resolve_left hne
  rcases hpermits with hp | ⟨rfl, _⟩
  · exact ⟨c, (hp _ hmem).scycleMirror, hc⟩
  · split_ifs at hmem <;> simp at hmem

/-- A presentation leaves both mirrors alone. -/
theorem present_mirrors (w : ReqWord) (s : State) :
    (present w s).rateMirror = s.rateMirror ∧ (present w s).scycleMirror = s.scycleMirror := by
  rcases present_spec w s with ⟨_, h⟩ | ⟨_, _, h⟩ | ⟨_, _, h⟩ | ⟨_, i, _, _, h⟩ <;> rw [h]
  case inr.inr.inr => exact ⟨rfl, rfl⟩
  all_goals rw [raise_spec]; exact ⟨rfl, rfl⟩

/-- Without a reset, a step that changes a mirror is a step of the instruction in flight. -/
theorem step_mirrors {s t : State} (h : step s = .next t) (hr : resetNow s = false) :
    (t.rateMirror = s.rateMirror ∧ t.scycleMirror = s.scycleMirror) ∨
      (s.busy = true ∧ ∃ i, inFlight s = some i ∧ exec i (beginStep s) = .next t) := by
  rcases step_cases s with ⟨hr', _⟩ | ⟨_, _, hs⟩ | ⟨_, _, w, _, hs⟩ |
    ⟨_, _, _, hb, ⟨i, hi, hs⟩ | ⟨_, hs⟩⟩ | ⟨_, _, _, _, hs⟩
  · exact absurd (hr'.symm.trans hr) (by decide)
  · cases h.symm.trans hs
  · obtain rfl := Host.Outcome.next.inj (h.symm.trans hs)
    exact .inl (present_mirrors w (beginStep s))
  · exact .inr ⟨hb, i, hi, hs.symm.trans h⟩
  · cases h.symm.trans hs
  · obtain rfl := Host.Outcome.next.inj (h.symm.trans hs)
    exact .inl ⟨rfl, rfl⟩

/-- Settles O48: only a step of an instruction writes a mirror, and only as its script permits. -/
theorem mirrorsHaveTheirWritersOnly : Obligations.MirrorsHaveTheirWritersOnly := by
  refine ⟨fun s t h hr => ?_, rfl⟩
  rcases step_mirrors h ((resetNow_eq_false_iff s).mpr hr) with ⟨hrate, hscycle⟩ | ⟨hb, i, hi, hexec⟩
  · exact ⟨fun hne => absurd hrate hne, fun hne => absurd hscycle hne⟩
  · refine ⟨fun hne => ⟨hb, ?_⟩, fun hne => ⟨hb, ?_⟩⟩
    · rcases exec_rateMirror hexec hne with ⟨rfl, hv⟩ | ⟨a, rfl, hv⟩
      · exact .inl ⟨hi, hv⟩
      · exact .inr ⟨a, hi, hv⟩
    · obtain ⟨b, rfl, hv⟩ := exec_scycleMirror hexec hne
      exact ⟨b, hi, hv⟩

/-! ### A delay stalls the Block (R40) -/

/-- A delay asked of a dutiful timer (R89). -/
theorem exec_delay_done {i : Instr} {s : State} {e : BusEvent} (h : delayDue i s = some e) (ht : TimerDutiful s) :
    exec i s = .next { s with
      trace := s.trace ++ (if s.waiting = true then [] else [e]), timerIn := s.timerIn.tail, waiting := false,
      opstep := s.opstep + 1, phase := phaseAfterDelay i s.phase } := by
  rw [exec_at_delay h, delay_done ht]
  by_cases hi : i = .readOp <;> simp [hi, phaseAfterDelay, complete, advance, assign]

/-- A delay that the timer reports not yet done (R40). -/
theorem exec_delay_notYet {i : Instr} {s : State} {e : BusEvent} {rest : List TimerReport}
    (h : delayDue i s = some e) (ht : s.timerIn = .notYet :: rest) :
    exec i s = .next { s with
      trace := s.trace ++ (if s.waiting = true then [] else [e]), timerIn := rest, waiting := true } := by
  rw [exec_at_delay h, delay_notYet (by simp [timerReport, ht]), ht]
  rfl

/-- A delay whose timer never completes (R309). -/
theorem exec_delay_never {i : Instr} {s : State} {e : BusEvent} {rest : List TimerReport}
    (h : delayDue i s = some e) (ht : s.timerIn = .never :: rest) : exec i s = .fault .timerNeverCompletes := by
  rw [exec_at_delay h, delay_never (by simp [timerReport, ht])]

theorem execSteps_of_next {i : Instr} {n : Nat} {s t : State} (h : exec i s = .next t) :
    execSteps i (n + 1) s = execSteps i n t := by
  rw [execSteps, h]

/-- `j` reports of not yet and then done: the delay is over after `j + 1` steps, and its event is appended unless the
Block waits already. -/
theorem execSteps_delay {i : Instr} {e : BusEvent} {rest : List TimerReport} (j : Nat) {s : State}
    (h : delayDue i s = some e) (ht : s.timerIn = List.replicate j .notYet ++ .done :: rest) :
    execSteps i (j + 1) s = .next { s with
      trace := s.trace ++ (if s.waiting = true then [] else [e]), timerIn := rest, waiting := false,
      opstep := s.opstep + 1, phase := phaseAfterDelay i s.phase } := by
  induction j generalizing s with
  | zero =>
    have hdone : TimerDutiful s := by simp [TimerDutiful, timerReport, ht]
    rw [execSteps_of_next (exec_delay_done h hdone), ht]
    rfl
  | succ j ih =>
    have hnext : s.timerIn = .notYet :: (List.replicate j .notYet ++ .done :: rest) := ht
    rw [execSteps_of_next (exec_delay_notYet h hnext)]
    refine Eq.trans (ih ?_ rfl) (by simp)
    exact h

/-- A request presented to a busy Block is a RequestWhileBusy fault (R303). -/
theorem step_now_of_busy {s : State} {w : ReqWord} {rest : List HostMove} (hf : s.fault = 0) (hb : s.busy = true)
    (hh : s.hostIn = .now w :: rest) : step s = .next (raise (.requestWhileBusy w) (beginStep s)) := by
  have hr : resetNow s = false := by simp [resetNow, hh]
  have hq : requestNow s = some w := by simp [requestNow, hh]
  rw [step_of_request hf hr hq, present_of_busy (s := beginStep s) hb]

/-- Settles O38, by induction on the reports of not yet. -/
theorem settleWaitStallsUntilTheTimerReports : Obligations.SettleWaitStallsUntilTheTimerReports := by
  refine ⟨fun i s e j rest h hw ht => ?_, fun i s e rest h ht => exec_delay_notYet h ht,
    fun i s e h ht => exec_delay_done h ht, fun i s e rest h ht => exec_delay_never h ht,
    fun s w rest hf hb _ hh => ⟨_, step_now_of_busy hf hb hh, by rw [raise_spec]; rfl⟩⟩
  rw [execSteps_delay j h ht]
  simp [hw]

/-! ### Nothing reads the mirrors (R34, R35) -/

@[simp] theorem eraseMirrors_opstep (s : State) : (eraseMirrors s).opstep = s.opstep := rfl
@[simp] theorem eraseMirrors_pollCount (s : State) : (eraseMirrors s).pollCount = s.pollCount := rfl
@[simp] theorem eraseMirrors_cfg (s : State) : (eraseMirrors s).cfg = s.cfg := rfl
/-- `f` reads no mirror. -/
def MirrorBlind {α : Type} (f : State → α) : Prop := ∀ s, f (eraseMirrors s) = f s

theorem MirrorBlind.congr {α : Type} {f : State → α} (hf : MirrorBlind f) {s s' : State}
    (h : eraseMirrors s = eraseMirrors s') : f s = f s' :=
  calc f s = f (eraseMirrors s) := (hf s).symm
    _ = f (eraseMirrors s') := by rw [h]
    _ = f s' := hf s'

/-- What reads no mirror, after an operation that may write one but passes none on. -/
theorem MirrorBlind.comp {α : Type} {g : State → α} {f : State → State} (hg : MirrorBlind g)
    (hf : MirrorBlind fun s => eraseMirrors (f s)) : MirrorBlind fun s => g (f s) :=
  fun s => hg.congr (hf s)

theorem MirrorBlind.next {f : State → State} (hf : MirrorBlind fun s => eraseMirrors (f s)) :
    MirrorBlind fun s => eraseOutcome (.next (f s)) :=
  fun s => congrArg Host.Outcome.next (hf s)

theorem mirrorBlind_assignAll (as : List Assign) : MirrorBlind fun s => eraseMirrors (assignAll as s) := by
  induction as with
  | nil => exact fun _ => rfl
  | cons a as ih =>
    have hassign : MirrorBlind fun s => eraseMirrors (assign s a) := fun s => by cases a <;> rfl
    exact ih.comp hassign

theorem mirrorBlind_complete (as : List Assign) : MirrorBlind fun s => eraseMirrors (complete as s) :=
  (mirrorBlind_assignAll as).comp (f := advance) fun _ => rfl

theorem mirrorBlind_xferDiscard (o : Byte) : MirrorBlind fun s => eraseMirrors (xferDiscard o s) := by
  intro s
  simp only [xferDiscard_eq]
  rfl

theorem mirrorBlind_xferKeep : MirrorBlind fun s => eraseMirrors (xferKeep s) := by
  intro s
  simp only [xferKeep_eq]
  rfl

theorem mirrorBlind_raise (f : BlockFault) : MirrorBlind fun s => eraseMirrors (raise f s) := by
  intro s
  simp only [raise_spec]
  rfl

/-- A ready sample leaves the mirrors as they are. -/
theorem sampleReady_eraseMirrors (s : State) :
    sampleReady (eraseMirrors s) = ((sampleReady s).1, eraseMirrors (sampleReady s).2) := by
  obtain ⟨⟩ := s
  rename_i readyIn _ _ _ _ _ _
  cases readyIn <;> rfl

theorem mirrorBlind_poll (as : List Assign) : MirrorBlind fun s => eraseMirrors (poll as s) := by
  intro s
  simp only [poll, sampleReady_eraseMirrors, eraseMirrors_cfg, eraseMirrors_pollCount]
  split_ifs
  · exact (mirrorBlind_complete as).congr rfl
  · exact (mirrorBlind_raise .readTimeout).congr rfl
  · exact (mirrorBlind_complete as).congr rfl

theorem mirrorBlind_delay (e : BusEvent) (as : List Assign) : MirrorBlind fun s => eraseOutcome (delay e as s) := by
  intro s
  change eraseOutcome (delay e as (eraseMirrors s)) = eraseOutcome (delay e as s)
  have hreport : timerReport (eraseMirrors s) = timerReport s := rfl
  cases ht : timerReport s <;> rw [ht] at hreport
  case done =>
    rw [delay_done ht, delay_done hreport]
    exact (mirrorBlind_complete as).next.congr rfl
  case notYet =>
    rw [delay_notYet ht, delay_notYet hreport]
    rfl
  case never => rw [delay_never ht, delay_never hreport]

/-- A primitive that reads no mirror, between its assignments. -/
theorem mirrorBlind_around {f : State → State} (before after : List Assign)
    (hf : MirrorBlind fun s => eraseMirrors (f s)) :
    MirrorBlind fun s => eraseOutcome (.next (complete after (f (assignAll before s)))) :=
  (((mirrorBlind_complete after).comp hf).comp (mirrorBlind_assignAll before)).next

theorem mirrorBlind_microStep (m : Micro) : MirrorBlind fun s => eraseOutcome (microStep m s) := by
  obtain ⟨before, prim, after⟩ := m
  cases prim with
  | cfgBus => exact mirrorBlind_around (f := cfgBus) before after fun _ => rfl
  | teardown => exact mirrorBlind_around (f := teardown) before after fun _ => rfl
  | cs a => exact mirrorBlind_around (f := chipSelect a) before after fun _ => rfl
  | send o => exact mirrorBlind_around before after (mirrorBlind_xferDiscard o)
  | recv => exact mirrorBlind_around before after mirrorBlind_xferKeep
  | sample => exact ((mirrorBlind_poll after).comp (mirrorBlind_assignAll before)).next
  | delayUs n => exact (mirrorBlind_delay (.delayUs n) after).comp (mirrorBlind_assignAll before)
  | delayMs n => exact (mirrorBlind_delay (.delayMs n) after).comp (mirrorBlind_assignAll before)

theorem mirrorBlind_respond (v : Word32) (final : List Assign) :
    MirrorBlind fun s => eraseMirrors (respond v (assignAll final s)) := by
  have hrespond : MirrorBlind fun s => eraseMirrors (respond v s) := fun _ => rfl
  exact hrespond.comp (mirrorBlind_assignAll final)

theorem mirrorBlind_runScript (script : List Micro) (final : List Assign) (v : Word32) :
    MirrorBlind fun s => eraseOutcome (runScript script final v s) := by
  intro s
  simp only [runScript, eraseMirrors_opstep]
  cases script[s.opstep]? with
  | some m => exact mirrorBlind_microStep m s
  | none =>
    by_cases hend : s.opstep = script.length
    · simp only [hend, if_true]
      exact (mirrorBlind_respond v final).next s
    · simp only [hend, if_false]

theorem mirrorBlind_runSetPin (nibble : Field) (pin : Nat) (b : Bool) :
    MirrorBlind fun s => eraseOutcome (runSetPin nibble pin b s) := by
  intro s
  simp only [runSetPin]
  split_ifs
  · exact mirrorBlind_runScript (setBit (pinField nibble pin) b s) [] 0 s
  · exact mirrorBlind_runScript [] [] 0 s

theorem mirrorBlind_runGetPin (nibble : Field) (pin : Nat) :
    MirrorBlind fun s => eraseOutcome (runGetPin nibble pin s) := by
  intro s
  simp only [runGetPin]
  split_ifs
  · exact mirrorBlind_runScript _ _ _ s
  · exact (mirrorBlind_runScript [] [] (boolResponse (Config.freePin s.draws))).congr rfl

/-- No instruction reads a mirror: its script rests on the parameters, the polls and the bytes received. -/
theorem mirrorBlind_exec (i : Instr) : MirrorBlind fun s => eraseOutcome (exec i s) := by
  intro s
  cases i
  case setGpioDir pin b | setGpioValue pin b => exact mirrorBlind_runSetPin _ pin b s
  case getGpioDir pin | getGpioValue pin => exact mirrorBlind_runGetPin _ pin s
  all_goals exact mirrorBlind_runScript _ _ _ s

theorem mirrorBlind_present (w : ReqWord) : MirrorBlind fun s => eraseMirrors (present w s) := by
  intro s
  change eraseMirrors (present w (eraseMirrors s)) = eraseMirrors (present w s)
  rcases present_spec w s with ⟨hb, h⟩ | ⟨hb, ⟨_, hd⟩, h⟩ | ⟨hb, ⟨i, hd, hp, hi⟩, h⟩ | ⟨hb, i, hd, hi, h⟩ <;> rw [h]
  · rw [present_of_busy (s := eraseMirrors s) hb]
    exact mirrorBlind_raise (.requestWhileBusy w) s
  · rw [present_of_error (s := eraseMirrors s) hb hd]
    exact mirrorBlind_raise (.illegalRequest w) s
  · rw [present_of_uninitialized (s := eraseMirrors s) hb hd hp hi]
    exact mirrorBlind_raise (.notInitialized w) s
  · rw [present_of_legal (s := eraseMirrors s) hb hd hi]
    rfl

/-- Taking the Host's move of this step passes the mirrors on. -/
theorem mirrorBlind_beginStep : MirrorBlind fun s => eraseMirrors (beginStep s) := fun _ => rfl

theorem mirrorBlind_step : MirrorBlind fun s => eraseOutcome (step s) := by
  intro s
  change eraseOutcome (step (eraseMirrors s)) = eraseOutcome (step s)
  rcases step_cases s with ⟨hr, hs⟩ | ⟨hr, hf, hs⟩ | ⟨hr, hf, w, hq, hs⟩ |
    ⟨hr, hf, hq, hb, ⟨i, hi, hs⟩ | ⟨hi, hs⟩⟩ | ⟨hr, hf, hq, hb, hs⟩ <;> rw [hs]
  · rw [step_of_reset (s := eraseMirrors s) hr]
    rfl
  · rw [step_of_fault (s := eraseMirrors s) hf hr]
  · rw [step_of_request (s := eraseMirrors s) hf hr hq]
    exact ((mirrorBlind_present w).comp mirrorBlind_beginStep).next s
  · rw [step_of_inFlight (s := eraseMirrors s) hf hb hr hq hi]
    exact (mirrorBlind_exec i).comp mirrorBlind_beginStep s
  · rw [step_of_nothingInFlight (s := eraseMirrors s) hf hb hr hq hi]
  · rw [step_of_idle (s := eraseMirrors s) hf hb hr hq]
    rfl

/-- Settles O49: a step reads no mirror. -/
theorem mirrorsInfluenceNothing : Obligations.MirrorsInfluenceNothing := fun _ _ h => mirrorBlind_step.congr h

end Sys2Proof.Machine

/-! ## The memory family (20_memory.md): the bus discipline and the Device

PROOFS. Every step keeps the trace a sequence of whole transactions (R76, R77), a disciplined Block never stops but on a
timer that never completes (R89), an oracle's answers are received in order (R84), and the reference device holds what
is written (R88). -/

namespace Sys2Proof.Machine

/-! ### The Block faulted, idle and busy -/

theorem busDisciplined_of_fault {s : State} (hf : s.fault ≠ 0) (hle : s.fault.toNat ≤ 4) (hb : s.busy = false)
    (hcs : s.cs = false) : BusDisciplined s :=
  ⟨hle, fun _ => hb, fun _ => hcs, fun h0 => absurd h0 hf, by simp [hb]⟩

theorem busDisciplined_of_idle {s : State} (hf : s.fault = 0) (hb : s.busy = false) (hcs : s.cs = false)
    (hrest : AtRest s) : BusDisciplined s :=
  ⟨by simp [hf], fun _ => hb, fun _ => hcs, fun _ _ => hrest, by simp [hb]⟩

theorem busDisciplined_of_busy {s : State} {i : Instr} (hf : s.fault = 0) (hb : s.busy = true)
    (hi : inFlight s = some i) (hu : Underway i s) : BusDisciplined s :=
  ⟨by simp [hf], fun h => absurd hf h, by simp [hb], by simp [hb], fun _ => ⟨i, hi, hu⟩⟩

/-- What `BusDisciplined` says of the instruction known to be in flight. -/
theorem BusDisciplined.underway {s : State} {i : Instr} (h : BusDisciplined s) (hb : s.busy = true)
    (hi : inFlight s = some i) : Underway i s := by
  obtain ⟨_, _, _, _, hbusy⟩ := h
  obtain ⟨j, hj, hu⟩ := hbusy hb
  obtain rfl : i = j := Option.some.inj (hi.symm.trans hj)
  exact hu

/-! ### A presentation -/

/-- Fault entry leaves chip select deasserted and nothing in flight (R305). -/
theorem busDisciplined_raise (f : BlockFault) (s : State) : BusDisciplined (raise f s) := by
  rw [raise_spec]
  exact busDisciplined_of_fault f.code_range.1 f.code_range.2 rfl rfl

/-- An accepted request has taken no primitive (R36, R170). -/
theorem busDisciplined_accept {w : ReqWord} {i : Instr} {s : State} (hd : BusDisciplined s) (hf : s.fault = 0)
    (hb : s.busy = false) (hi : decodeRequest w = .ok i) : BusDisciplined (accept w i s) := by
  obtain ⟨_, _, hcs, hrest, _⟩ := hd
  obtain ⟨_, _, _, _, htrace⟩ := hrest hf hb
  refine busDisciplined_of_busy (i := i) hf rfl (inFlight_of_request rfl rfl hi) ⟨Nat.zero_le _, ?_, ?_, rfl⟩
  · exact htrace
  · simp [htrace, hcs hb, BusPos.inside]

theorem busDisciplined_present {w : ReqWord} {s : State} (hd : BusDisciplined s) (hf : s.fault = 0) :
    BusDisciplined (present w s) := by
  rcases present_spec w s with ⟨_, h⟩ | ⟨_, _, h⟩ | ⟨_, _, h⟩ | ⟨hb, i, hi, _, h⟩ <;> rw [h]
  case inr.inr.inr => exact busDisciplined_accept hd hf hb hi
  all_goals exact busDisciplined_raise _ s

/-! ### A step of the instruction in flight -/

/-- A completed primitive takes its beat of the plan, also where a not-ready sample lengthens the plan of `read` by one
more turn (R166). -/
theorem Stepped.plan_take {i : Instr} {s s' t : State} {script : List Micro} {final : List Assign} {v : Word32}
    {m : Micro} (h : Stepped m s t) (R : Runs i s script final v s') (hm : script[s.opstep]? = some m) :
    t.opstep ≤ (plan i t.pollCount).length ∧
      (plan i t.pollCount).take t.opstep = (plan i s.pollCount).take s.opstep ++ [m.prim.beat] := by
  have hdue := R.plan_getElem? hm
  have hlt : s.opstep < (plan i s.pollCount).length := (List.getElem?_eq_some_iff.mp hdue).1
  rw [h.opstep, ← take_snoc hdue]
  rcases h.polls with hp | ⟨hsample, hp⟩ <;> rw [hp]
  · exact ⟨hlt, rfl⟩
  · obtain ⟨rfl, hk⟩ := R.sample _ m hm hsample
    rw [plan_read_length, plan_read_take (by omega), plan_read_take (by omega)]
    exact ⟨by omega, rfl⟩

/-- A completed primitive moves the trace by its beat; the event of a delay that was waited for stands there already. -/
theorem Stepped.busRun_trace {m : Micro} {s t : State} {q q' : BusPos} (h : Stepped m s t)
    (hq : busRun s.trace = some q) (hmove : beatMove q m.prim.beat = some q') :
    busRun t.trace = some q' := by
  rcases h.trace with ⟨_, hother, _, ht⟩ | ⟨e, ht, hbeat⟩
  · rw [hother] at hmove
    obtain rfl := outside_of_beatMove_other hmove
    rw [ht, hq]
    exact hmove
  · have he : beatMove q e.beat = beatMove q m.prim.beat := by
      rw [hbeat]
      split_ifs with hkeep
      · rw [hkeep, beatMove_keep]
      · rfl
    rw [ht, busRun_snoc, hq, Option.bind_some, he, hmove]

theorem Stepped.underway {i : Instr} {s s' t : State} {script : List Micro} {final : List Assign} {v : Word32}
    {m : Micro} (h : Stepped m s t) (R : Runs i s script final v s') (hm : script[s.opstep]? = some m)
    (hu : Underway i s) : Underway i t := by
  obtain ⟨_, htrace, hcs, hrx⟩ := hu
  obtain ⟨hle, htake⟩ := h.plan_take R hm
  obtain ⟨q, q', hq, hmove⟩ := beatMove_of_beatRun (beatRun_plan i s.pollCount) (R.plan_getElem? hm)
  have hrun : busRun t.trace = some q' := h.busRun_trace (htrace.trans hq) hmove
  obtain ⟨xs, hxs, hlen⟩ := h.rx
  refine ⟨hle, ?_, ?_, ?_⟩
  · rw [hrun, htake, beatRun_snoc, hq, Option.bind_some, hmove]
  · have hin : q.inside = s.cs := by simpa [htrace, hq] using hcs
    rw [hrun, Option.map_some, inside_of_beatMove hmove, hin, h.cs]
  · rw [hxs, List.length_append, hrx, hlen, htake, List.count_append, List.count_singleton]
    simp

/-- The primitive of a stalled delay is one outside transactions. -/
theorem Stalled.beat_eq_other {m : Micro} {s t : State} (h : Stalled m s t) : m.prim.beat = .other := by
  obtain ⟨n, hn | hn⟩ := h.delays <;> rw [hn] <;> rfl

/-- A stalled delay stands outside transactions, and its event leaves the trace there (R40). -/
theorem Stalled.underway {i : Instr} {s s' t : State} {script : List Micro} {final : List Assign} {v : Word32}
    {m : Micro} (h : Stalled m s t) (R : Runs i s script final v s') (hm : script[s.opstep]? = some m)
    (hu : Underway i s) : Underway i t := by
  obtain ⟨hle, htrace, hcs, hrx⟩ := hu
  have hdue := R.plan_getElem? hm
  rw [h.beat_eq_other] at hdue
  obtain ⟨q, q', hq, hmove⟩ := beatMove_of_beatRun (beatRun_plan i s.pollCount) hdue
  obtain rfl := outside_of_beatMove_other hmove
  have hrun : busRun t.trace = busRun s.trace := by
    rcases h.trace with ht | ⟨e, ht, he⟩
    · rw [ht]
    · rw [ht, busRun_snoc, htrace, hq, Option.bind_some, he]
      rfl
  unfold Underway
  rw [hrun, h.opstep, h.polls, h.cs, h.rx]
  exact ⟨hle, htrace, hcs, hrx⟩

/-- When every primitive of the plan has been taken, the trace is whole transactions and chip select is deasserted. -/
theorem Underway.at_end {i : Instr} {s : State} (h : Underway i s) (hend : s.opstep = (plan i s.pollCount).length) :
    busRun s.trace = some .outside ∧ s.cs = false := by
  obtain ⟨_, htrace, hcs, _⟩ := h
  rw [hend, List.take_length, beatRun_plan] at htrace
  rw [htrace] at hcs
  exact ⟨htrace, (Option.some.inj hcs).symm⟩

theorem busDisciplined_exec {i : Instr} {s t : State} (hf : s.fault = 0) (hb : s.busy = true)
    (hi : inFlight s = some i) (hu : Underway i s) (h : exec i s = .next t) : BusDisciplined t := by
  obtain ⟨script, final, v, n, R, ⟨m, hm, hdone | hstall | hout⟩ | ⟨hlen, rfl⟩⟩ := exec_prim_or_respond h
  · exact busDisciplined_of_busy (hdone.fault.trans hf) (hdone.busy.trans hb)
      ((inFlight_congr hdone.framer hdone.curReq hdone.kept.cfg).trans hi) (hdone.underway R hm hu)
  · exact busDisciplined_of_busy (hstall.fault.trans hf) (hstall.busy.trans hb)
      ((inFlight_congr hstall.framer hstall.curReq hstall.kept.cfg).trans hi) (hstall.underway R hm hu)
  · exact busDisciplined_of_fault (by rw [hout.fault]; decide) (by rw [hout.fault]; decide) hout.busy hout.cs
  · obtain ⟨htrace, hcs⟩ := hu.at_end (hlen.trans R.length_eq)
    have hrest : AtRest (respond v (assignAll final { s with draws := n })) :=
      ⟨rfl, rfl, rfl, rfl, by simpa using htrace⟩
    exact busDisciplined_of_idle (by simpa using hf) rfl (by simpa using hcs) hrest

/-- Settles O51, by the kinds of step: a reset, a presentation, a step of the instruction in flight, waiting. -/
theorem busDisciplineIsKept : Obligations.BusDisciplineIsKept := by
  intro s t hd h
  have hd' : BusDisciplined (beginStep s) := hd
  rcases step_cases s with ⟨_, hs⟩ | ⟨_, _, hs⟩ | ⟨_, hf, w, _, hs⟩ |
    ⟨_, hf, _, hb, ⟨i, hi, hs⟩ | ⟨_, hs⟩⟩ | ⟨_, hf, _, hb, hs⟩ <;> rw [h] at hs
  · obtain rfl := Host.Outcome.next.inj hs
    exact busDisciplined_of_idle rfl rfl rfl ⟨rfl, rfl, rfl, rfl, rfl⟩
  · cases hs
  · obtain rfl := Host.Outcome.next.inj hs
    exact busDisciplined_present hd' hf
  · exact busDisciplined_exec (s := beginStep s) hf hb hi (hd'.underway hb hi) hs.symm
  · cases hs
  · obtain rfl := Host.Outcome.next.inj hs
    exact hd'

/-! ### What can stop a disciplined Block (R89) -/

/-- Within its plan an instruction stops only where the timer never completes. -/
theorem exec_goes_on {i : Instr} {s : State} (hle : s.opstep ≤ (plan i s.pollCount).length)
    (ht : timerReport s ≠ .never) : ∃ t, exec i s = .next t := by
  obtain ⟨script, final, v, s', R⟩ := exec_runs i s
  obtain ⟨n, rfl⟩ := drawn_only R.state
  rw [R.exec_eq]
  rcases runScript_cases script final v { s with draws := n } with ⟨m, _, h⟩ | ⟨_, h⟩ | ⟨hlt, _⟩
  · rw [h]
    exact microStep_goes_on m ht
  · exact ⟨_, h⟩
  · exact absurd (R.length_eq ▸ hlt) (Nat.not_lt.mpr hle)

/-- Settles O54: what is in flight decodes, and it stands within its plan. -/
theorem noStopFromADisciplinedState : Obligations.NoStopFromADisciplinedState := by
  intro s hd hf ht
  rcases step_cases s with ⟨_, hs⟩ | ⟨_, hne, _⟩ | ⟨_, _, w, _, hs⟩ |
    ⟨_, _, _, hb, ⟨i, hi, hs⟩ | ⟨hnone, _⟩⟩ | ⟨_, _, _, _, hs⟩
  · exact ⟨_, hs⟩
  · exact absurd hf hne
  · exact ⟨_, hs⟩
  · obtain ⟨hle, _⟩ := hd.underway hb hi
    rw [hs]
    exact exec_goes_on (s := beginStep s) hle ht
  · obtain ⟨_, _, _, _, hbusy⟩ := hd
    obtain ⟨i, hi, _⟩ := hbusy hb
    cases hnone.symm.trans hi
  · exact ⟨_, hs⟩

/-! ### The oracle's scripted answers (R84) -/

theorem deviceAnswer_of_oracle {s : State} {a : Byte} {rest : List Byte} (o : Byte)
    (h : s.dev = .oracle (a :: rest)) : deviceAnswer o s = (a, { s with dev := .oracle rest }) := by
  simp [deviceAnswer, h]

/-- Settles O44: the Device's next answer, and the next level, are the heads of their lists. -/
theorem scriptedAnswersAreReceivedInOrder : Obligations.ScriptedAnswersAreReceivedInOrder := by
  refine ⟨fun s o a rest h => ⟨?_, ?_⟩, fun s l rest h => ?_⟩
  · rw [xferDiscard, deviceAnswer_of_oracle o h]
    rfl
  · simp only [xferKeep, deviceAnswer_of_oracle s.cfg.dummy h]
    rfl
  · simp only [sampleReady, h]
    rfl

/-! ### Whole operations: scripts of primitives that neither wait nor sample -/

/-- What a primitive does that answers at once; the others do nothing here. -/
def Prim.act (x : Prim) (s : State) : State :=
  match x with
  | .cfgBus => Machine.cfgBus s
  | .teardown => Machine.teardown s
  | .cs a => chipSelect a s
  | .send o => xferDiscard o s
  | .recv => xferKeep s
  | .sample | .delayUs _ | .delayMs _ => s

/-- The primitive asks neither the timer nor the ready line. -/
def Prim.atOnce (x : Prim) : Bool :=
  match x with
  | .cfgBus | .teardown | .cs _ | .send _ | .recv => true
  | .sample | .delayUs _ | .delayMs _ => false

/-- Such a primitive between its assignments. -/
def Micro.act (m : Micro) (s : State) : State := complete m.after (m.prim.act (assignAll m.before s))

theorem microStep_of_atOnce {m : Micro} (h : m.prim.atOnce = true) (s : State) : microStep m s = .next (m.act s) := by
  obtain ⟨before, x, after⟩ := m
  cases x
  case sample | delayUs | delayMs => cases h
  all_goals rfl

/-- Such primitives one after the other. -/
def play (ms : List Micro) (s : State) : State := ms.foldl (fun u m => m.act u) s

@[simp] theorem play_nil (s : State) : play [] s = s := rfl
@[simp] theorem play_cons (m : Micro) (ms : List Micro) (s : State) : play (m :: ms) s = play ms (m.act s) := rfl
@[simp] theorem play_append (ms ms' : List Micro) (s : State) : play (ms ++ ms') s = play ms' (play ms s) :=
  List.foldl_append

@[simp] theorem Micro.act_opstep (m : Micro) (s : State) : (m.act s).opstep = s.opstep + 1 := by
  obtain ⟨before, x, after⟩ := m
  cases x <;> simp [act, Prim.act, xferDiscard_eq, xferKeep_eq]

@[simp] theorem Micro.act_cfg (m : Micro) (s : State) : (m.act s).cfg = s.cfg := by
  obtain ⟨before, x, after⟩ := m
  cases x <;> simp [act, Prim.act, xferDiscard_eq, xferKeep_eq]

@[simp] theorem Micro.act_pollCount (m : Micro) (s : State) : (m.act s).pollCount = s.pollCount := by
  obtain ⟨before, x, after⟩ := m
  cases x <;> simp [act, Prim.act, xferDiscard_eq, xferKeep_eq]

@[simp] theorem Micro.act_timerIn (m : Micro) (s : State) : (m.act s).timerIn = s.timerIn := by
  obtain ⟨before, x, after⟩ := m
  cases x <;> simp [act, Prim.act, xferDiscard_eq, xferKeep_eq]

/-- The bytes received stand. -/
theorem Micro.rx_extends_act (m : Micro) (s : State) : s.rx <+: (m.act s).rx := by
  obtain ⟨before, x, after⟩ := m
  cases x <;> simp [act, Prim.act, xferDiscard_eq, xferKeep_eq]

@[simp] theorem play_opstep (ms : List Micro) (s : State) : (play ms s).opstep = s.opstep + ms.length := by
  induction ms generalizing s with
  | nil => rfl
  | cons m ms ih => rw [play_cons, ih, Micro.act_opstep, List.length_cons, Nat.add_assoc, Nat.add_comm 1]

@[simp] theorem play_cfg (ms : List Micro) (s : State) : (play ms s).cfg = s.cfg := by
  induction ms generalizing s with
  | nil => rfl
  | cons m ms ih => rw [play_cons, ih, Micro.act_cfg]

@[simp] theorem play_pollCount (ms : List Micro) (s : State) : (play ms s).pollCount = s.pollCount := by
  induction ms generalizing s with
  | nil => rfl
  | cons m ms ih => rw [play_cons, ih, Micro.act_pollCount]

@[simp] theorem play_timerIn (ms : List Micro) (s : State) : (play ms s).timerIn = s.timerIn := by
  induction ms generalizing s with
  | nil => rfl
  | cons m ms ih => rw [play_cons, ih, Micro.act_timerIn]

/-- From `s` on, instruction `i` runs these primitives: in every state that is as far on in them, with the parameters
and the polls of `s` and at least the bytes received that `s` has. -/
def Follows (i : Instr) (s : State) (ms : List Micro) : Prop :=
  ∀ (k : Nat) (m : Micro) (u : State), ms[k]? = some m → u.opstep = s.opstep + k → u.cfg = s.cfg →
    u.pollCount = s.pollCount → s.rx <+: u.rx → exec i u = microStep m u

theorem Follows.tail {i : Instr} {s : State} {m : Micro} {ms : List Micro} (h : Follows i s (m :: ms)) :
    Follows i (m.act s) ms := by
  intro k m' u hk hop hcfg hpolls hrx
  refine h (k + 1) m' u hk ?_ (hcfg.trans (m.act_cfg s)) (hpolls.trans (m.act_pollCount s))
    ((m.rx_extends_act s).trans hrx)
  rw [hop, Micro.act_opstep, Nat.add_assoc, Nat.add_comm 1]

/-- As many steps of the operation as there are primitives play them. -/
theorem execSteps_play {i : Instr} {k n : Nat} {ms : List Micro} {s : State} (h : Follows i s ms)
    (hms : ∀ m ∈ ms, m.prim.atOnce = true) (hk : k = ms.length + n) :
    execSteps i k s = execSteps i n (play ms s) := by
  subst hk
  induction ms generalizing s with
  | nil => rw [List.length_nil, Nat.zero_add, play_nil]
  | cons m ms ih =>
    obtain ⟨hm, hms⟩ := List.forall_mem_cons.mp hms
    have hstep : exec i s = .next (m.act s) :=
      (h 0 m s rfl rfl rfl rfl ⟨[], List.append_nil _⟩).trans (microStep_of_atOnce hm s)
    rw [List.length_cons, Nat.add_right_comm, execSteps_of_next hstep, ih h.tail hms, play_cons]

/-- The primitives to the end of a script, and the step that ends it. -/
theorem execSteps_play_last {i : Instr} {k : Nat} {ms : List Micro} {s t : State} (h : Follows i s ms)
    (hms : ∀ m ∈ ms, m.prim.atOnce = true) (hlast : exec i (play ms s) = .next t) (hk : k = ms.length + 1) :
    execSteps i k s = .next t :=
  (execSteps_play h hms hk).trans (execSteps_of_next hlast)

/-- A part of a script is what the instruction runs from the position where it stands. -/
theorem follows_of_runScript {i : Instr} {s : State} {before ms : List Micro}
    (h : ∀ u : State, u.cfg = s.cfg → u.pollCount = s.pollCount → s.rx <+: u.rx →
      ∃ after v, exec i u = runScript (before ++ ms ++ after) [] v u)
    (hop : s.opstep = before.length) : Follows i s ms := by
  intro k m u hk hu hcfg hpolls hrx
  obtain ⟨after, v, he⟩ := h u hcfg hpolls hrx
  have hlt : k < ms.length := (List.getElem?_eq_some_iff.mp hk).1
  rw [he, List.append_assoc, runScript_prim]
  rw [hu, hop, List.getElem?_append_right (Nat.le_add_right _ _), Nat.add_sub_cancel_left,
    List.getElem?_append_left hlt, hk]

/-- The whole operation of an instruction whose script rests on the parameters only. -/
theorem execSteps_script {i : Instr} {s : State} {script : List Micro} {value : List Byte → Word32}
    (h : ∀ u : State, u.cfg = s.cfg → exec i u = runScript script [] (value u.rx) u) (hop : s.opstep = 0)
    (hms : ∀ m ∈ script, m.prim.atOnce = true) :
    execSteps i (script.length + 1) s = .next (respond (value (play script s).rx) (play script s)) := by
  have hfollows : Follows i s script :=
    follows_of_runScript (before := []) (fun u hu _ _ => ⟨[], _, by simpa using h u hu⟩) hop
  refine execSteps_play_last hfollows hms ((h _ (play_cfg script s)).trans (runScript_respond ?_)) rfl
  rw [play_opstep, hop, Nat.zero_add]

/-- Assignments before the first primitive are played first. -/
theorem play_startWith (as : List Assign) (m : Micro) (ms : List Micro) (s : State) :
    play (startWith as (m :: ms)) s = play (m :: ms) (assignAll as s) := by
  simp [startWith, Micro.act, assignAll]

/-! ### The framer's transactions (R76, R140 to R144) -/

theorem act_cs (a : Bool) (s : State) : (Prim.cs a).alone.act s = advance (chipSelect a s) := rfl
theorem act_send (o : Byte) (s : State) : (Prim.send o).alone.act s = advance (xferDiscard o s) := rfl
theorem act_recv (s : State) : Prim.recv.alone.act s = advance (xferKeep s) := rfl

/-- A transaction that sends these bytes and then keeps what it receives for `n` more. -/
def transaction (bytes : List Byte) (n : Nat) : List Micro :=
  (Prim.cs true).alone :: (bytes.map (fun o => (Prim.send o).alone) ++ List.replicate n Prim.recv.alone ++
    [(Prim.cs false).alone])

theorem transaction_length (bytes : List Byte) (n : Nat) : (transaction bytes n).length = bytes.length + n + 2 := by
  simp [transaction, Nat.add_assoc]

theorem transaction_atOnce (bytes : List Byte) (n : Nat) : ∀ m ∈ transaction bytes n, m.prim.atOnce = true := by
  intro m hm
  simp only [transaction, List.mem_cons, List.mem_append, List.mem_map, List.mem_replicate, List.not_mem_nil,
    or_false] at hm
  rcases hm with rfl | (⟨_, _, rfl⟩ | ⟨_, rfl⟩) | rfl <;> rfl

theorem play_transaction (bytes : List Byte) (n : Nat) (s : State) :
    play (transaction bytes n) s = advance (chipSelect false (play (List.replicate n Prim.recv.alone)
      (play (bytes.map fun o => (Prim.send o).alone) (advance (chipSelect true s))))) := by
  rw [transaction, play_cons, play_append, play_append, act_cs, play_cons, act_cs, play_nil]

theorem writeByte_eq (p : Params) (addr v : Byte) : writeByte p addr v = transaction [wframe p addr, v] 0 := rfl
theorem writeTriple_eq (p : Params) (addr : Byte) (v : Word24) :
    writeTriple p addr v = transaction (wframe p addr :: split24 v) 0 := rfl

/-! ### What the reference device reads in a frame byte (R88, R112) -/

theorem viewFrame_rframe {p : Params} (h : p.chip = .default) (r : Reg) :
    viewFrame p (rframe p (p.addr r)) = .registerRead (p.addr r) := by
  obtain ⟨chip, start, _⟩ := p
  obtain rfl : chip = .default := h
  cases start <;> cases r <;>
    simp [viewFrame, rframe, pStart, pMode, Params.addr, RegAddr.at, Chip.default, RegAddr.default]

theorem viewFrame_wframe {p : Params} (h : p.chip = .default) (r : Reg) :
    viewFrame p (wframe p (p.addr r)) = .registerWrite (p.addr r) := by
  obtain ⟨chip, start, _⟩ := p
  obtain rfl : chip = .default := h
  cases start <;> cases r <;>
    simp [viewFrame, wframe, pStart, pMode, Params.addr, RegAddr.at, Chip.default, RegAddr.default]

/-- Every command frame is read as a command: START is set and MODE is not (R104). -/
theorem viewFrame_cframe {p : Params} (h : p.chip = .default) (op : Byte) :
    viewFrame p (cframe p op) = .command (op &&& 0x3F) := by
  obtain ⟨chip, start, _⟩ := p
  obtain rfl : chip = .default := h
  have hand (a b : Byte) : ((op &&& 63#8) ||| a) &&& b = (op &&& (63#8 &&& b)) ||| (a &&& b) := by
    ext k hk
    simp [Bool.and_or_distrib_right, Bool.and_assoc]
  cases start <;> simp [viewFrame, cframe, pStart, pMode, hand, Chip.default]

theorem regAt_addr_default {p : Params} (h : p.chip = .default) (r : Reg) : p.regAt (p.addr r) = some r :=
  regAt_addr (by rw [h]; decide) r

theorem RefDev.exchange_rframe {p : Params} {d : RefDev} (h : p.chip = .default) (hl : d.link = .frame) (r : Reg) :
    d.exchange p (rframe p (p.addr r)) = (0, { d with link := .reading (d.held r) }) := by
  simp [exchange, hl, viewFrame_rframe h, regAt_addr_default h]

theorem RefDev.exchange_wframe {p : Params} {d : RefDev} (h : p.chip = .default) (hl : d.link = .frame) (r : Reg) :
    d.exchange p (wframe p (p.addr r)) = (0, { d with link := .writing r [] }) := by
  simp [exchange, hl, viewFrame_wframe h, regAt_addr_default h]

theorem RefDev.exchange_cframe {p : Params} {d : RefDev} (h : p.chip = .default) (hl : d.link = .frame) (op : Byte) :
    d.exchange p (cframe p op) = (0, { d with link := .rest }) := by
  simp [exchange, hl, viewFrame_cframe h]

/-! ### The reference device in a transaction (R88) -/

/-- The reference device after these bytes have been sent to it. -/
def RefDev.afterBytes (p : Params) (d : RefDev) (bytes : List Byte) : RefDev :=
  bytes.foldl (fun d o => (d.exchange p o).2) d

/-- The reference device between two transactions. -/
def RefDev.released (d : RefDev) : RefDev := { d with link := .frame }

theorem play_sends_ref {s : State} {d : RefDev} (bytes : List Byte) (hd : s.dev = .ref d) :
    (play (bytes.map fun o => (Prim.send o).alone) s).dev = .ref (d.afterBytes s.cfg bytes) ∧
      (play (bytes.map fun o => (Prim.send o).alone) s).rx = s.rx := by
  induction bytes generalizing s d with
  | nil => exact ⟨hd, rfl⟩
  | cons o bytes ih =>
    have hdev : ((Prim.send o).alone.act s).dev = .ref (d.exchange s.cfg o).2 := by
      simp [act_send, xferDiscard_eq, hd, deviceAfter]
    obtain ⟨h1, h2⟩ := ih hdev
    refine ⟨h1.trans (by rw [Micro.act_cfg]; rfl), h2.trans ?_⟩
    simp [act_send, xferDiscard_eq]

/-- While the reference device sends the bytes of a read, they are what is received and kept. -/
theorem play_recvs_ref {s : State} {d : RefDev} (bytes : List Byte)
    (hd : s.dev = .ref { d with link := .reading bytes }) :
    (play (List.replicate bytes.length Prim.recv.alone) s).dev = .ref { d with link := .reading [] } ∧
      (play (List.replicate bytes.length Prim.recv.alone) s).rx = s.rx ++ bytes := by
  induction bytes generalizing s with
  | nil => exact ⟨hd, by simp⟩
  | cons v bytes ih =>
    have hdev : (Prim.recv.alone.act s).dev = .ref { d with link := .reading bytes } := by
      simp [act_recv, xferKeep_eq, hd, deviceAfter, RefDev.exchange]
    have hrx : (Prim.recv.alone.act s).rx = s.rx ++ [v] := by
      simp [act_recv, xferKeep_eq, hd, answerOf, RefDev.exchange]
    obtain ⟨h1, h2⟩ := ih hdev
    rw [List.length_cons, List.replicate_succ, play_cons]
    exact ⟨h1, by rw [h2, hrx, List.append_assoc, List.singleton_append]⟩

/-- The Device of `s` is the reference device between two transactions, holding what `d` holds; the parameters are `p`,
with the chip constants of R7. -/
structure AtRefDev (p : Params) (s : State) (d : RefDev) : Prop where
  cfg  : s.cfg = p
  chip : p.chip = .default
  dev  : s.dev = .ref d
  link : d.link = .frame

/-- Selected, the reference device awaits a frame byte, as between two transactions. -/
theorem AtRefDev.select {p : Params} {s : State} {d : RefDev} (h : AtRefDev p s d) :
    (advance (chipSelect true s)).dev = .ref d := by
  obtain ⟨_, _, hdev, hlink⟩ := h
  cases d
  simp_all [Device.select]

/-- A transaction that keeps nothing leaves the reference device as its bytes do. -/
theorem AtRefDev.play_transaction {p : Params} {s : State} {d : RefDev} (h : AtRefDev p s d) (bytes : List Byte) :
    AtRefDev p (play (transaction bytes 0) s) (d.afterBytes p bytes).released := by
  obtain ⟨hdev, _⟩ := play_sends_ref bytes h.select
  refine ⟨(play_cfg _ s).trans h.cfg, h.chip, ?_, rfl⟩
  rw [Machine.play_transaction, List.replicate_zero, play_nil, advance_dev, chipSelect_dev, hdev, advance_cfg,
    chipSelect_cfg, h.cfg]
  rfl

/-- A read of a register receives what it holds, and leaves the reference device as it was (R140, R141). -/
theorem AtRefDev.play_read {p : Params} {s : State} {d : RefDev} (h : AtRefDev p s d) (r : Reg) :
    AtRefDev p (play (transaction [rframe p (p.addr r)] (d.held r).length) s) d ∧
      (play (transaction [rframe p (p.addr r)] (d.held r).length) s).rx = s.rx ++ d.held r := by
  obtain ⟨hdev, hrx⟩ := play_sends_ref [rframe p (p.addr r)] h.select
  simp only [RefDev.afterBytes, List.foldl_cons, List.foldl_nil, advance_cfg, chipSelect_cfg, h.cfg,
    RefDev.exchange_rframe h.chip h.link] at hdev
  obtain ⟨hdev', hrx'⟩ := play_recvs_ref (d.held r) hdev
  refine ⟨⟨(play_cfg _ s).trans h.cfg, h.chip, ?_, h.link⟩, ?_⟩
  · rw [Machine.play_transaction, advance_dev, chipSelect_dev, hdev', Device.select, ← h.link]
  · rw [Machine.play_transaction, advance_rx, chipSelect_rx, hrx', hrx]
    rfl

/-- A byte written to an 8-bit register is stored (R142). -/
theorem AtRefDev.play_writeByte {p : Params} {s : State} {d : RefDev} (h : AtRefDev p s d) {r : Reg} (hr : r.bytes = 1)
    (v : Byte) : AtRefDev p (play (writeByte p (p.addr r) v) s) (d.store8 r v) := by
  have hbytes : (d.afterBytes p [wframe p (p.addr r), v]).released = d.store8 r v := by
    have hlink := h.link
    simp only [RefDev.afterBytes, List.foldl_cons, List.foldl_nil, RefDev.exchange_wframe h.chip hlink]
    cases d
    cases r <;> simp_all [RefDev.exchange, RefDev.payload, RefDev.store8, RefDev.released, Reg.bytes]
  rw [writeByte_eq, ← hbytes]
  exact h.play_transaction _

/-- Three bytes written to a 24-bit register are stored, joined as they were split (R143, R73). -/
theorem AtRefDev.play_writeTriple {p : Params} {s : State} {d : RefDev} (h : AtRefDev p s d) {r : Reg}
    (hr : r.bytes = 3) (v : Word24) : AtRefDev p (play (writeTriple p (p.addr r) v) s) (d.store24 r v) := by
  have hbytes : (d.afterBytes p (wframe p (p.addr r) :: split24 v)).released = d.store24 r v := by
    have hlink := h.link
    simp only [RefDev.afterBytes, List.foldl_cons, RefDev.exchange_wframe h.chip hlink]
    cases d
    cases r <;> simp_all [split24, RefDev.exchange, RefDev.payload, RefDev.store24, RefDev.released, Reg.bytes,
      join24_split24]
  rw [writeTriple_eq, ← hbytes]
  exact h.play_transaction _

/-- A command leaves every register of the reference device (R144). -/
theorem AtRefDev.play_sendCommand {p : Params} {s : State} {d : RefDev} (h : AtRefDev p s d) (op : Byte) :
    AtRefDev p (play (sendCommand p op) s) d := by
  have hbytes : (d.afterBytes p [cframe p op]).released = d := by
    simp only [RefDev.afterBytes, List.foldl_cons, List.foldl_nil, RefDev.exchange_cframe h.chip h.link]
    rw [RefDev.released, ← h.link]
  have hplay := h.play_transaction [cframe p op]
  rwa [hbytes] at hplay

/-! ### Bits and fields of a byte (R146 to R148) -/

/-- The value of a field of one bit is that bit (R148). -/
theorem zext32_fieldOf_bit {f : Field} {k : Nat} (hmask : f.mask = 1#8 <<< k) (hshift : f.shift = k) (hk : k < 8)
    (v : Byte) : zext32 (fieldOf f v) = bitOf k v := by
  have hk' : k < 32 := by omega
  ext j hj
  cases j <;> simp [zext32, fieldOf, bitOf, hmask, hshift, hk, hk']

/-- The gain code in bits 7:5, and the other bits kept (R260). -/
theorem withField_dgain {k : Nat} (hk : k < 8) (old : Byte) :
    (withField FieldMap.default.dgain k old).toNat / 32 = k ∧
      withField FieldMap.default.dgain k old &&& 0x1F = old &&& 0x1F := by
  have hcode : withField FieldMap.default.dgain k old >>> 5 = BitVec.ofNat 8 k := by
    have hbit (j : Nat) (h3 : 3 ≤ j) (hj : j < 8) : (BitVec.ofNat 8 k)[j] = false := by
      rw [← BitVec.getLsbD_eq_getElem, BitVec.getLsbD_ofNat,
        Nat.testBit_lt_two_pow (hk.trans_le (Nat.pow_le_pow_right (n := 2) (by decide) h3)), Bool.and_false]
    ext j hj
    interval_cases j <;> simp [withField, FieldMap.default, hbit]
  refine ⟨?_, ?_⟩
  · have h := congrArg BitVec.toNat hcode
    rw [BitVec.toNat_ushiftRight, Nat.shiftRight_eq_div_pow, BitVec.toNat_ofNat] at h
    omega
  · ext j hj
    interval_cases j <;> simp [withField, FieldMap.default]

theorem held_length (d : RefDev) (r : Reg) : (d.held r).length = r.bytes := by cases r <;> rfl

/-! ### Whole operations on the reference device -/

/-- An operation that is one read of a register responds what the register holds. -/
theorem readsRegister_ref {i : Instr} {s : State} {d : RefDev} {r : Reg} {value : List Byte → Word32} (hs : AtStart s)
    (hd : AtRefDev s.cfg s d)
    (h : ∀ u : State, u.cfg = s.cfg →
      exec i u = runScript (transaction [rframe s.cfg (s.cfg.addr r)] r.bytes) [] (value u.rx) u) :
    ∃ t, execSteps i (r.bytes + 4) s = .next t ∧ t.respValue = value (d.held r) ∧ t.dev = .ref d := by
  obtain ⟨hop, hrx, _⟩ := hs
  rw [← held_length d r] at h ⊢
  obtain ⟨hd', hrx'⟩ := hd.play_read r
  have hrun := execSteps_script h hop (transaction_atOnce _ _)
  rw [transaction_length, List.length_singleton, Nat.add_comm 1] at hrun
  refine ⟨_, hrun, ?_, hd'.dev⟩
  rw [respond_respValue, hrx', hrx, List.nil_append]

/-- A getter of a field responds the field of the register held (R148). -/
theorem getField_ref {i : Instr} {s : State} {d : RefDev} {v : Byte} {w : Word32} (field : FieldMap → Field)
    (hs : AtStart s) (hd : AtRefDev s.cfg s d) (h : ∀ u, exec i u = runGetField (field u.cfg.chip.fields) u)
    (hv : d.held (field .default).reg = [v]) (hw : zext32 (fieldOf (field .default) v) = w) :
    ∃ t, execSteps i 5 s = .next t ∧ t.respValue = w ∧ t.dev = .ref d := by
  have hbytes : (field .default).reg.bytes = 1 := by rw [← held_length d, hv]; rfl
  have hexec : ∀ u : State, u.cfg = s.cfg → exec i u =
      runScript (transaction [rframe s.cfg (s.cfg.addr (field .default).reg)] (field .default).reg.bytes) []
        (zext32 (fieldOf (field .default) (u.rx.headD 0))) u := by
    intro u hu
    rw [h, runGetField, hu, hd.chip, hbytes]
    rfl
  obtain ⟨t, hrun, hval, hdev⟩ := readsRegister_ref
    (value := fun rx => zext32 (fieldOf (field .default) (rx.headD 0))) hs hd hexec
  rw [hbytes] at hrun
  exact ⟨t, hrun, hval.trans (by rw [hv]; exact hw), hdev⟩

/-- A getter of a single bit. -/
theorem getBit_ref {i : Instr} {s : State} {d : RefDev} {v : Byte} (field : FieldMap → Field) (k : Nat)
    (hs : AtStart s) (hd : AtRefDev s.cfg s d) (h : ∀ u, exec i u = runGetField (field u.cfg.chip.fields) u)
    (hv : d.held (field .default).reg = [v]) (hmask : (field .default).mask = 1#8 <<< k)
    (hshift : (field .default).shift = k) (hk : k < 8) :
    ∃ t, execSteps i 5 s = .next t ∧ t.respValue = bitOf k v ∧ t.dev = .ref d :=
  getField_ref field hs hd h hv (zext32_fieldOf_bit hmask hshift hk v)

/-- A read of a 24-bit register responds the sign extension of what it holds (R141). -/
theorem getTriple_ref {i : Instr} {s : State} {d : RefDev} {v : Word24} (r : Reg) (hs : AtStart s)
    (hd : AtRefDev s.cfg s d) (h : ∀ u, exec i u = runGetTriple r u) (hr : r.bytes = 3) (hv : d.held r = split24 v) :
    ∃ t, execSteps i 7 s = .next t ∧ t.respValue = BitVec.signExtend 32 v ∧ t.dev = .ref d := by
  have hexec : ∀ u : State, u.cfg = s.cfg → exec i u =
      runScript (transaction [rframe s.cfg (s.cfg.addr r)] r.bytes) []
        (sext32 (join24 (u.rx.getD 0 0) (u.rx.getD 1 0) (u.rx.getD 2 0))) u := by
    intro u hu
    rw [h, runGetTriple, hu, hr]
    rfl
  obtain ⟨t, hrun, hval, hdev⟩ := readsRegister_ref
    (value := fun rx => sext32 (join24 (rx.getD 0 0) (rx.getD 1 0) (rx.getD 2 0))) hs hd hexec
  rw [hr] at hrun
  refine ⟨t, hrun, hval.trans ?_, hdev⟩
  rw [hv]
  exact congrArg sext32 (join24_split24 v)

/-- A read of an 8-bit register alone responds the byte it holds (R140). -/
theorem readByte_ref {i : Instr} {s : State} {d : RefDev} {v : Byte} (r : Reg) (hs : AtStart s)
    (hd : AtRefDev s.cfg s d) (h : ∀ u, exec i u = runReadByte r u) (hv : d.held r = [v]) :
    ∃ t, execSteps i 5 s = .next t ∧ t.respValue = v.setWidth 32 ∧ t.dev = .ref d := by
  have hr : r.bytes = 1 := by rw [← held_length d, hv]; rfl
  have hexec : ∀ u : State, u.cfg = s.cfg → exec i u =
      runScript (transaction [rframe s.cfg (s.cfg.addr r)] r.bytes) [] (zext32 (u.rx.headD 0)) u := by
    intro u hu
    rw [h, runReadByte, hu, hr]
    rfl
  obtain ⟨t, hrun, hval, hdev⟩ := readsRegister_ref (value := fun rx => zext32 (rx.headD 0)) hs hd hexec
  rw [hr] at hrun
  exact ⟨t, hrun, hval.trans (by rw [hv]; rfl), hdev⟩

/-- A write of a 24-bit register stores its payload (R143). -/
theorem setTriple_ref {i : Instr} {s : State} {d : RefDev} {v : Word24} (r : Reg) (hs : AtStart s)
    (hd : AtRefDev s.cfg s d) (h : ∀ u, exec i u = runSetTriple r v u) (hr : r.bytes = 3) :
    ∃ t, execSteps i 7 s = .next t ∧ t.dev = .ref (d.store24 r v) := by
  have hexec : ∀ u : State, u.cfg = s.cfg → exec i u = runScript (writeTriple s.cfg (s.cfg.addr r) v) [] 0 u := by
    intro u hu
    rw [h, runSetTriple, hu]
  exact ⟨_, execSteps_script (value := fun _ => 0) hexec hs.1 (transaction_atOnce (wframe _ _ :: split24 v) 0),
    (hd.play_writeTriple hr v).dev⟩

/-- A write of an 8-bit register stores its payload (R142). -/
theorem writeByte_ref {i : Instr} {s : State} {d : RefDev} {v : Byte} (r : Reg) (hs : AtStart s)
    (hd : AtRefDev s.cfg s d) (h : ∀ u, exec i u = runWriteByte r v u) (hr : r.bytes = 1) :
    ∃ t, execSteps i 5 s = .next t ∧ t.dev = .ref (d.store8 r v) := by
  have hexec : ∀ u : State, u.cfg = s.cfg → exec i u = runScript (writeByte s.cfg (s.cfg.addr r) v) [] 0 u := by
    intro u hu
    rw [h, runWriteByte, hu]
  exact ⟨_, execSteps_script (value := fun _ => 0) hexec hs.1 (transaction_atOnce [wframe _ _, v] 0),
    (hd.play_writeByte hr v).dev⟩

/-- The read of a read-modify-write, whatever is assigned first. -/
theorem AtRefDev.play_readFirst {p : Params} {s : State} {d : RefDev} {r : Reg} {old : Byte} (h : AtRefDev p s d)
    (as : List Assign) (hrx : s.rx = []) (hold : d.held r = [old]) :
    AtRefDev p (play (startWith as (readByte p (p.addr r))) s) d ∧
      (play (startWith as (readByte p (p.addr r))) s).rx = [old] := by
  have h0 : AtRefDev p (assignAll as s) d := ⟨by simpa using h.cfg, h.chip, by simpa using h.dev, h.link⟩
  obtain ⟨hd, hgot⟩ := h0.play_read r
  have hplay : play (startWith as (readByte p (p.addr r))) s =
      play (transaction [rframe p (p.addr r)] (d.held r).length) (assignAll as s) := by
    rw [hold]
    exact play_startWith as _ _ s
  rw [hplay]
  exact ⟨hd, hgot.trans (by rw [assignAll_rx, hrx, hold]; rfl)⟩

/-- A read-modify-write: the byte held is read, and the new byte is stored (R146, R147). -/
theorem modifies_ref {i : Instr} {s : State} {d : RefDev} {r : Reg} {old : Byte} {new : Byte → Byte}
    (as : List Assign) (hs : AtStart s) (hd : AtRefDev s.cfg s d) (hold : d.held r = [old])
    (h : ∀ u : State, u.cfg = s.cfg → exec i u = runScript (startWith as (readByte s.cfg (s.cfg.addr r)) ++
      writeByte s.cfg (s.cfg.addr r) (new (byteRead u))) [] 0 u) :
    ∃ t, execSteps i 9 s = .next t ∧ t.dev = .ref (d.store8 r (new old)) := by
  obtain ⟨hop, hrx, _⟩ := hs
  have hr : r.bytes = 1 := by rw [← held_length d, hold]; rfl
  have hread : Follows i s (startWith as (readByte s.cfg (s.cfg.addr r))) :=
    follows_of_runScript (before := []) (fun u hu _ _ => ⟨_, _, h u hu⟩) hop
  obtain ⟨hd1, hrx1⟩ := hd.play_readFirst as hrx hold
  have hop1 : (play (startWith as (readByte s.cfg (s.cfg.addr r))) s).opstep = 4 := by
    rw [play_opstep, hop]
    rfl
  have hwrite : Follows i (play (startWith as (readByte s.cfg (s.cfg.addr r))) s)
      (writeByte s.cfg (s.cfg.addr r) (new old)) := by
    refine follows_of_runScript (before := startWith as (readByte s.cfg (s.cfg.addr r)))
      (fun u hu _ hgot => ⟨[], 0, ?_⟩) hop1
    obtain ⟨more, hmore⟩ := hgot
    have hold' : byteRead u = old := by rw [byteRead, ← hmore, hrx1]; rfl
    rw [h u (hu.trans hd1.cfg), hold', List.append_nil]
  have hd2 := hd1.play_writeByte hr (new old)
  refine ⟨_, (execSteps_play hread ?_ rfl).trans (execSteps_play_last hwrite
    (transaction_atOnce [wframe _ _, new old] 0) ((h _ hd2.cfg).trans (runScript_respond ?_)) rfl), hd2.dev⟩
  · simp [startWith, readByte, Prim.alone, Prim.atOnce]
  · rw [play_opstep, hop1]
    rfl

/-- A setter of a single-bit field sets that bit of the register held, and keeps the others (R146). -/
theorem setBit_ref {i : Instr} {s : State} {d : RefDev} {old mask : Byte} {b : Bool} (field : FieldMap → Field)
    (as : List Assign) (hs : AtStart s) (hd : AtRefDev s.cfg s d)
    (h : ∀ u, exec i u = runScript (startWith as (setBit (field u.cfg.chip.fields) b u)) [] 0 u)
    (hold : d.held (field .default).reg = [old]) (hmask : (field .default).mask = mask) :
    ∃ t, execSteps i 9 s = .next t ∧ t.dev = .ref (d.store8 (field .default).reg (bitSet mask b old)) := by
  subst hmask
  refine modifies_ref (new := withBit (field .default) b) as hs hd hold fun u hu => ?_
  rw [h, setBit, hu, hd.chip]
  rfl

/-- A GPIO setter of a pin that exists (R244). -/
theorem runSetPin_of_lt {nibble : Field} {pin : Nat} {b : Bool} {s : State} (h : pin < 4) :
    runSetPin nibble pin b s = runSetBit (pinField nibble pin) b s := by
  simp [runSetPin, pinInRange, nGpio, h]

/-- A GPIO getter of a pin that exists (R244). -/
theorem runGetPin_of_lt {nibble : Field} {pin : Nat} {s : State} (h : pin < 4) :
    runGetPin nibble pin s = runGetField (pinField nibble pin) s := by
  simp [runGetPin, pinInRange, nGpio, h]

/-- The bit of a pin in the low nibble of CTRL2 (R52, R242). -/
theorem pinField_dio_mask (pin : Nat) : (pinField FieldMap.default.dio pin).mask = 1#8 <<< pin := by
  rw [show (pinField FieldMap.default.dio pin).mask = 1#8 <<< (0 + pin) from rfl, Nat.zero_add]

/-- `setGain` packs the clamped gain into bits 7:5 of CTRL3 (R260). -/
theorem setGain_ref {s : State} {d : RefDev} (g : Nat) (hs : AtStart s) (hd : AtRefDev s.cfg s d) :
    ∃ t, execSteps (.setGain g) 9 s = .next t ∧
      t.dev = .ref { d with ctrl3 := withField FieldMap.default.dgain (min g 4) d.ctrl3 } := by
  refine modifies_ref (r := .ctrl3) (new := withField FieldMap.default.dgain (min g 4)) [] hs hd rfl fun u hu => ?_
  rw [exec, execSetGain, setField, clampGain, hu, hd.chip]
  rfl

/-- `read` on a line that is ready at once (R166). -/
theorem read_ref {s : State} {d : RefDev} {levels : List Bool} (hs : AtStart s) (hd : AtRefDev s.cfg s d)
    (hpolls : s.pollCount = 0) (hready : s.readyIn = s.cfg.readyAsserted :: levels) :
    ∃ t, execSteps .readOp 8 s = .next t ∧ t.respValue = BitVec.signExtend 32 d.data ∧ t.dev = .ref d := by
  obtain ⟨hop, hrx, _⟩ := hs
  have hexec (u : State) (hu : u.cfg = s.cfg) (hp : u.pollCount = 0) : exec .readOp u =
      runScript (Prim.sample.alone :: readTriple s.cfg (s.cfg.addr .data)) [] (tripleRead u) u := by
    rw [exec, execRead, hu, hp]
    rfl
  obtain ⟨s1, hsample, hop1, hpolls1, hrx1, hd1⟩ : ∃ s1, exec .readOp s = .next s1 ∧ s1.opstep = 1 ∧
      s1.pollCount = 0 ∧ s1.rx = [] ∧ AtRefDev s.cfg s1 d := by
    refine ⟨complete [] { s with readyIn := levels, trace := s.trace ++ [.ready s.cfg.readyAsserted] }, ?_,
      by simp [hop], by simpa using hpolls, by simpa using hrx, rfl, hd.chip, hd.dev, hd.link⟩
    rw [hexec s rfl hpolls, runScript_prim (m := Prim.sample.alone) (by rw [hop]; rfl)]
    simp [microStep, Prim.alone, poll, sampleReady, hready, emit]
  have hread : Follows .readOp s1 (readTriple s.cfg (s.cfg.addr .data)) :=
    follows_of_runScript (before := [Prim.sample.alone]) (fun u hu hp _ =>
      ⟨[], _, by rw [hexec u (hu.trans hd1.cfg) (hp.trans hpolls1), List.append_nil]; rfl⟩) hop1
  obtain ⟨hd2, hrx2⟩ : AtRefDev s.cfg (play (readTriple s.cfg (s.cfg.addr .data)) s1) d ∧
      (play (readTriple s.cfg (s.cfg.addr .data)) s1).rx = split24 d.data := by
    obtain ⟨hdev, hgot⟩ := hd1.play_read .data
    exact ⟨hdev, hgot.trans (by rw [hrx1]; rfl)⟩
  refine ⟨_, (execSteps_of_next hsample).trans (execSteps_play_last hread (transaction_atOnce [rframe _ _] 3)
    ((hexec _ hd2.cfg (by rw [play_pollCount, hpolls1])).trans (runScript_respond ?_)) rfl), ?_, hd2.dev⟩
  · rw [play_opstep, hop1]
    rfl
  · rw [respond_respValue, tripleRead, hrx2]
    exact congrArg sext32 (join24_split24 d.data)

/-- The script of `begin` up to its settle wait (R161). -/
def beginSetup (p : Params) : List Micro :=
  ⟨[.phase .configuring], .cfgBus, []⟩ ::
    (writeByte p (p.addr .ctrl1) p.chip.defaultCtrl1 ++ writeByte p (p.addr .ctrl2) p.chip.defaultCtrl2 ++
      writeByte p (p.addr .ctrl3) p.chip.defaultCtrl3 ++ sendCommand p p.chip.cal0)

/-- The script of `begin` after its settle wait. -/
def beginRate (p : Params) : List Micro :=
  endWith [.rateMirror (rateMirrorOf p.chip.defaultRate), .phase .converting]
    (sendCommand p (rateOpcode p.rateArgMask p.chip.defaultRate))

/-- The settle wait of `begin`. -/
def beginWait (p : Params) : Micro := ⟨[], .delayMs (tSelfcalMs p), [.phase .calibrated]⟩

theorem beginScript_eq (p : Params) : beginScript p = beginSetup p ++ beginWait p :: beginRate p := rfl

theorem beginSetup_atOnce (p : Params) : ∀ m ∈ beginSetup p, m.prim.atOnce = true := by
  simp [beginSetup, writeByte, sendCommand, Prim.alone, Prim.atOnce]

theorem beginRate_atOnce (p : Params) : ∀ m ∈ beginRate p, m.prim.atOnce = true := by
  simp [beginRate, endWith, sendCommand, Prim.alone, Prim.atOnce]

/-- `begin`'s first part leaves the three default bytes in the control registers (R161). -/
theorem AtRefDev.play_beginSetup {p : Params} {s : State} {d : RefDev} (h : AtRefDev p s d) :
    AtRefDev p (play (beginSetup p) s) { d with ctrl1 := 0xC0, ctrl2 := 0xF5, ctrl3 := 0x1E } := by
  have h0 : AtRefDev p (Micro.act ⟨[.phase .configuring], .cfgBus, []⟩ s) d := ⟨h.cfg, h.chip, h.dev, h.link⟩
  have hstored : ((d.store8 .ctrl1 p.chip.defaultCtrl1).store8 .ctrl2 p.chip.defaultCtrl2).store8 .ctrl3
      p.chip.defaultCtrl3 = { d with ctrl1 := 0xC0, ctrl2 := 0xF5, ctrl3 := 0x1E } := by
    rw [h.chip]
    rfl
  simp only [beginSetup, play_cons, play_append, ← hstored]
  exact (((h0.play_writeByte (r := .ctrl1) rfl _).play_writeByte (r := .ctrl2) rfl _).play_writeByte
    (r := .ctrl3) rfl _).play_sendCommand _

/-- `begin`'s last part is a command, and leaves every register. -/
theorem AtRefDev.play_beginRate {p : Params} {s : State} {d : RefDev} (h : AtRefDev p s d) :
    AtRefDev p (play (beginRate p) s) d := by
  have hrate := h.play_sendCommand (rateOpcode p.rateArgMask p.chip.defaultRate)
  exact ⟨(play_cfg _ s).trans h.cfg, h.chip, hrate.dev, h.link⟩

/-- `begin` leaves the three default bytes in the control registers (R161). -/
theorem begin_ref {s : State} {d : RefDev} (hs : AtStart s) (hd : AtRefDev s.cfg s d) (ht : TimerDutiful s) :
    ∃ t, execSteps .beginOp 21 s = .next t ∧ t.dev = .ref { d with ctrl1 := 0xC0, ctrl2 := 0xF5, ctrl3 := 0x1E } := by
  obtain ⟨hop, _, _⟩ := hs
  have hexec (u : State) (hu : u.cfg = s.cfg) : exec .beginOp u =
      runScript (beginSetup s.cfg ++ beginWait s.cfg :: beginRate s.cfg) [] 0 u := by
    rw [exec, execBegin, hu, beginScript_eq]
  have hsetup : Follows .beginOp s (beginSetup s.cfg) :=
    follows_of_runScript (before := []) (fun u hu _ _ => ⟨_, _, hexec u hu⟩) hop
  have hd1 := hd.play_beginSetup
  have hop1 : (play (beginSetup s.cfg) s).opstep = 16 := by rw [play_opstep, hop]; rfl
  have hdue : delayDue .beginOp (play (beginSetup s.cfg) s) = some (.delayMs (tSelfcalMs s.cfg)) := by
    simp only [delayDue, hop1, if_true, play_cfg]
  have hdutiful : TimerDutiful (play (beginSetup s.cfg) s) := by
    rw [TimerDutiful, timerReport, play_timerIn]
    exact ht
  obtain ⟨s2, hwait, hop2, hd2⟩ : ∃ s2, exec .beginOp (play (beginSetup s.cfg) s) = .next s2 ∧ s2.opstep = 17 ∧
      AtRefDev s.cfg s2 { d with ctrl1 := 0xC0, ctrl2 := 0xF5, ctrl3 := 0x1E } :=
    ⟨_, exec_delay_done hdue hdutiful, by rw [hop1], hd1.cfg, hd1.chip, hd1.dev, hd1.link⟩
  have hrate : Follows .beginOp s2 (beginRate s.cfg) :=
    follows_of_runScript (before := beginSetup s.cfg ++ [beginWait s.cfg])
      (fun u hu _ _ => ⟨[], 0, by rw [hexec u (hu.trans hd2.cfg)]; simp⟩) hop2
  have hd3 := hd2.play_beginRate
  refine ⟨_, (execSteps_play hsetup (beginSetup_atOnce _) rfl).trans ((execSteps_of_next hwait).trans
    (execSteps_play_last hrate (beginRate_atOnce _) ((hexec _ hd3.cfg).trans (runScript_respond ?_)) rfl)), hd3.dev⟩
  rw [play_opstep, hop2]
  rfl

/-! ### Every access of the reference device -/

/-- Settles O45: each operation is a read, a write or a read-modify-write of a register, but for `read`'s sample and the
three parts of `begin`. -/
theorem referenceDeviceReadsBackWhatIsWritten : Obligations.ReferenceDeviceReadsBackWhatIsWritten := by
  intro s r hs hdev hlink hchip
  have hd : AtRefDev s.cfg s r := ⟨rfl, hchip, hdev, hlink⟩
  refine ⟨fun v => ?_, ?_, ?_, fun pin hpin => ?_, fun v => ?_, fun b => ?_, fun pin b hpin => ?_, fun g => ?_,
    fun levels hpolls hready => read_ref hs hd hpolls hready, fun ht => begin_ref hs hd ht⟩
  case refine_8 =>
    obtain ⟨t, hrun, ht⟩ := setGain_ref g hs hd
    have hgain : min g 4 < 8 := (min_le_right g 4).trans_lt (by decide)
    exact ⟨t, _, hrun, ht, withField_dgain hgain r.ctrl3⟩
  all_goals simp only [List.forall_mem_cons, List.not_mem_nil, false_implies, implies_true, and_true]
  · exact ⟨setTriple_ref .soc hs hd (fun _ => rfl) rfl,
      setTriple_ref .sgc hs hd (fun _ => rfl) rfl,
      setTriple_ref .scoc hs hd (fun _ => rfl) rfl,
      setTriple_ref .scgc hs hd (fun _ => rfl) rfl,
      setTriple_ref .soc hs hd (fun _ => rfl) rfl,
      setTriple_ref .sgc hs hd (fun _ => rfl) rfl,
      setTriple_ref .scoc hs hd (fun _ => rfl) rfl,
      setTriple_ref .scgc hs hd (fun _ => rfl) rfl⟩
  · exact ⟨getTriple_ref .soc hs hd (fun _ => rfl) rfl rfl,
      getTriple_ref .sgc hs hd (fun _ => rfl) rfl rfl,
      getTriple_ref .scoc hs hd (fun _ => rfl) rfl rfl,
      getTriple_ref .scgc hs hd (fun _ => rfl) rfl rfl,
      getTriple_ref .data hs hd (fun _ => rfl) rfl rfl,
      getTriple_ref .soc hs hd (fun _ => rfl) rfl rfl,
      getTriple_ref .sgc hs hd (fun _ => rfl) rfl rfl,
      getTriple_ref .scoc hs hd (fun _ => rfl) rfl rfl,
      getTriple_ref .scgc hs hd (fun _ => rfl) rfl rfl⟩
  · exact ⟨getBit_ref (·.rdy) 0 hs hd (fun _ => rfl) rfl rfl rfl (by decide),
      getBit_ref (·.mstat) 1 hs hd (fun _ => rfl) rfl rfl rfl (by decide),
      getBit_ref (·.ur) 2 hs hd (fun _ => rfl) rfl rfl rfl (by decide),
      getBit_ref (·.or) 3 hs hd (fun _ => rfl) rfl rfl rfl (by decide),
      getField_ref (·.rate) hs hd (fun _ => rfl) rfl rfl,
      getBit_ref (·.sysgor) 7 hs hd (fun _ => rfl) rfl rfl rfl (by decide),
      getBit_ref (·.linef) 7 hs hd (fun _ => rfl) rfl rfl rfl (by decide),
      getBit_ref (·.ub) 6 hs hd (fun _ => rfl) rfl rfl rfl (by decide),
      getBit_ref (·.extclk) 5 hs hd (fun _ => rfl) rfl rfl rfl (by decide),
      getBit_ref (·.refbuf) 4 hs hd (fun _ => rfl) rfl rfl rfl (by decide),
      getBit_ref (·.sigbuf) 3 hs hd (fun _ => rfl) rfl rfl rfl (by decide),
      getBit_ref (·.format) 2 hs hd (fun _ => rfl) rfl rfl rfl (by decide),
      getBit_ref (·.scycle) 1 hs hd (fun _ => rfl) rfl rfl rfl (by decide),
      getField_ref (·.dgain) hs hd (fun _ => rfl) rfl rfl,
      getBit_ref (·.nosysg) 4 hs hd (fun _ => rfl) rfl rfl rfl (by decide),
      getBit_ref (·.nosyso) 3 hs hd (fun _ => rfl) rfl rfl rfl (by decide),
      getBit_ref (·.noscg) 2 hs hd (fun _ => rfl) rfl rfl rfl (by decide),
      getBit_ref (·.nosco) 1 hs hd (fun _ => rfl) rfl rfl rfl (by decide),
      readByte_ref .stat hs hd (fun _ => rfl) rfl,
      readByte_ref .ctrl1 hs hd (fun _ => rfl) rfl,
      readByte_ref .ctrl2 hs hd (fun _ => rfl) rfl,
      readByte_ref .ctrl3 hs hd (fun _ => rfl) rfl⟩
  · exact ⟨getBit_ref (fun m => pinField m.dir pin) (4 + pin) hs hd (fun _ => runGetPin_of_lt hpin) rfl rfl rfl
        (by omega),
      getBit_ref (fun m => pinField m.dio pin) pin hs hd (fun _ => runGetPin_of_lt hpin) rfl
        (pinField_dio_mask pin) (Nat.zero_add pin) (by omega)⟩
  · exact ⟨writeByte_ref .ctrl1 hs hd (fun _ => rfl) rfl,
      writeByte_ref .ctrl2 hs hd (fun _ => rfl) rfl,
      writeByte_ref .ctrl3 hs hd (fun _ => rfl) rfl⟩
  · exact ⟨setBit_ref (·.linef) [] hs hd (fun _ => rfl) rfl rfl,
      setBit_ref (·.ub) [] hs hd (fun _ => rfl) rfl rfl,
      setBit_ref (·.extclk) [] hs hd (fun _ => rfl) rfl rfl,
      setBit_ref (·.refbuf) [] hs hd (fun _ => rfl) rfl rfl,
      setBit_ref (·.sigbuf) [] hs hd (fun _ => rfl) rfl rfl,
      setBit_ref (·.format) [] hs hd (fun _ => rfl) rfl rfl,
      setBit_ref (·.scycle) [.scycleMirror b] hs hd (fun _ => rfl) rfl rfl,
      setBit_ref (·.nosysg) [] hs hd (fun _ => rfl) rfl rfl,
      setBit_ref (·.nosyso) [] hs hd (fun _ => rfl) rfl rfl,
      setBit_ref (·.noscg) [] hs hd (fun _ => rfl) rfl rfl,
      setBit_ref (·.nosco) [] hs hd (fun _ => rfl) rfl rfl⟩
  · exact ⟨setBit_ref (fun m => pinField m.dir pin) [] hs hd (fun _ => runSetPin_of_lt hpin) rfl rfl,
      setBit_ref (fun m => pinField m.dio pin) [] hs hd (fun _ => runSetPin_of_lt hpin) rfl
        (pinField_dio_mask pin)⟩

end Sys2Proof.Machine

/-! ## The encoding family (30_encoding.md): the frame bytes, the request words and their decoders

PROOFS. A frame byte is a masked operand under constant bits that lie outside the mask, so its view reads the operand
back (R101 to R104, R112, R113). A request word is read by its top bits, its op and the operands of its row (R115 to
R119). Under coherent chip constants decoding inverts encoding (notes/assumptions/9.md). -/

namespace Sys2Proof

open Machine

/-! ### Masked operands under constant bits -/

/-- Constant bits `k` over an operand of mask `m`: a mask `c` outside `m` sees the constant bits only. -/
theorem masked_or_and_of_disjoint {m c : Byte} (x k : Byte) (h : m &&& c = 0) : ((x &&& m) ||| k) &&& c = k &&& c := by
  simp [BitVec.and_or_distrib_right, BitVec.and_assoc, h]

/-- Constant bits `k` outside the mask `m` do not show under it. -/
theorem masked_or_and_mask {m k : Byte} (x : Byte) (h : k &&& m = 0) : ((x &&& m) ||| k) &&& m = x &&& m := by
  simp [BitVec.and_or_distrib_right, BitVec.and_assoc, h]

/-- A value of `n` bits passes the mask of the low `n` bits. -/
theorem and_low_mask {n : Nat} {x : Byte} (hx : x.toNat < 2 ^ n) (hn : n ≤ 8) :
    x &&& BitVec.ofNat 8 (2 ^ n - 1) = x := by
  have h8 : 2 ^ n ≤ 2 ^ 8 := Nat.pow_le_pow_right (by omega) hn
  apply BitVec.eq_of_toNat_eq
  rw [BitVec.toNat_and, BitVec.toNat_ofNat, Nat.mod_eq_of_lt (by omega), Nat.and_two_pow_sub_one_of_lt_two_pow hx]

/-- The address of a frame lies in bits 4 to 1 (R101, R103). -/
theorem addr_shifted (x : Byte) : (x &&& 0xF) <<< 1 = (x <<< 1) &&& 0x1E := by
  rw [BitVec.shiftLeft_and_distrib]
  rfl

/-- The address bits of a frame, read back (R112). -/
theorem addr_of_frame {k : Byte} (x : Byte) (h : (k >>> 1) &&& 0xF = 0) :
    ((((x &&& 0xF) <<< 1) ||| k) >>> 1) &&& 0xF = x &&& 0xF := by
  have hback : ((x &&& 0xF) <<< 1) >>> 1 = x &&& 0xF := by
    ext i hi
    interval_cases i <;> simp
  rw [BitVec.ushiftRight_or_distrib, hback]
  exact masked_or_and_mask x h

/-! ### The bits of a frame byte (R101 to R106) -/

/-- START and MODE are the two bits of START | MODE, in either order (R102, R105). -/
theorem pStart_or_pMode {p : Params} (h : p.chip.startMode = 0xC0) : pStart p.start ||| pMode p = 0xC0 := by
  cases hs : p.start <;> simp [pMode, pStart, h, hs]

theorem rframe_eq {p : Params} (hs : p.chip.startMode = 0xC0) (hr : p.chip.read = 0x01) (x : Byte) :
    rframe p x = ((x &&& 0xF) <<< 1) ||| 0xC1 := by
  rw [rframe, BitVec.or_assoc, BitVec.or_assoc, ← BitVec.or_assoc (pStart _), pStart_or_pMode hs, hr]
  rfl

theorem wframe_eq {p : Params} (hs : p.chip.startMode = 0xC0) (x : Byte) :
    wframe p x = ((x &&& 0xF) <<< 1) ||| 0xC0 := by
  rw [wframe, BitVec.or_assoc, pStart_or_pMode hs]

/-- A mask outside the address bits sees the constant bits of a read frame. -/
theorem rframe_and {p : Params} (hs : p.chip.startMode = 0xC0) (hr : p.chip.read = 0x01) (x : Byte) {c : Byte}
    (hc : (0x1E : Byte) &&& c = 0) : rframe p x &&& c = 0xC1 &&& c := by
  rw [rframe_eq hs hr, addr_shifted, masked_or_and_of_disjoint _ _ hc]

/-- A mask outside the address bits sees the constant bits of a write frame. -/
theorem wframe_and {p : Params} (hs : p.chip.startMode = 0xC0) (x : Byte) {c : Byte} (hc : (0x1E : Byte) &&& c = 0) :
    wframe p x &&& c = 0xC0 &&& c := by
  rw [wframe_eq hs, addr_shifted, masked_or_and_of_disjoint _ _ hc]

/-- A mask outside the six opcode bits sees START in a command frame. -/
theorem cframe_and (p : Params) (x : Byte) {c : Byte} (hc : (0x3F : Byte) &&& c = 0) :
    cframe p x &&& c = pStart p.start &&& c := masked_or_and_of_disjoint _ _ hc

theorem cframe_and_start_ne_zero (p : Params) (x : Byte) : cframe p x &&& pStart p.start ≠ 0 := by
  cases hs : p.start <;> rw [cframe_and] <;> simp [pStart, hs]

theorem cframe_and_mode {p : Params} (h : p.chip.startMode = 0xC0) (x : Byte) : cframe p x &&& pMode p = 0 := by
  cases hs : p.start <;> rw [cframe_and] <;> simp [pMode, pStart, h, hs]

/-- A command frame keeps the low six opcode bits and no other (R104). -/
theorem cframe_and_low6 (p : Params) (x : Byte) : cframe p x &&& 0x3F = x &&& 0x3F :=
  masked_or_and_mask x (by cases p.start <;> rfl)

/-! ### The view of a frame byte (R112) -/

theorem viewFrame_of_rframe {p : Params} (hs : p.chip.startMode = 0xC0) (hr : p.chip.read = 0x01) (x : Byte) :
    viewFrame p (rframe p x) = .registerRead (x &&& 0xF) := by
  have haddr : (rframe p x >>> 1) &&& 15#8 = x &&& 15#8 := by rw [rframe_eq hs hr]; exact addr_of_frame x rfl
  cases hp : p.start <;> simp [viewFrame, pMode, pStart, hp, hs, hr, haddr, rframe_and hs hr]

theorem viewFrame_of_wframe {p : Params} (hs : p.chip.startMode = 0xC0) (hr : p.chip.read = 0x01) (x : Byte) :
    viewFrame p (wframe p x) = .registerWrite (x &&& 0xF) := by
  have haddr : (wframe p x >>> 1) &&& 15#8 = x &&& 15#8 := by rw [wframe_eq hs]; exact addr_of_frame x rfl
  cases hp : p.start <;> simp [viewFrame, pMode, pStart, hp, hs, hr, haddr, wframe_and hs]

theorem viewFrame_of_cframe {p : Params} (hs : p.chip.startMode = 0xC0) (x : Byte) :
    viewFrame p (cframe p x) = .command (x &&& 0x3F) := by
  simp only [viewFrame, if_neg (cframe_and_start_ne_zero p x), if_pos (cframe_and_mode hs x), cframe_and_low6]

theorem and_one_bit_ne_zero (x : Byte) {k : Nat} (hk : k < 8) : (x &&& BitVec.twoPow 8 k != 0) = x.getLsbD k := by
  have hbit : BitVec.twoPow 8 k ≠ 0#8 := by
    interval_cases k <;> decide
  rw [BitVec.and_twoPow]
  cases x.getLsbD k <;> simp [hbit]

/-! ### Obligations on frame bytes -/

/-- Settles O12: under START | MODE = 0xC0 the constant bits are 0xC1 and 0xC0, whichever of them is START. -/
theorem frameBytesOfEveryAddress : Obligations.FrameBytesOfEveryAddress := by
  refine ⟨fun p addr => ⟨rfl, rfl⟩, fun p addr h => ?_⟩
  have hs : p.chip.startMode = 0xC0 := by rw [h]; rfl
  have hr : p.chip.read = 0x01 := by rw [h]; rfl
  exact ⟨rframe_eq hs hr addr, wframe_eq hs addr⟩

/-- Settles O13: the six opcode bits lie below START and MODE. -/
theorem commandFrameKeepsSixBits : Obligations.CommandFrameKeepsSixBits := by
  refine ⟨fun p op => ⟨rfl, ?_, fun h => cframe_and_mode h op⟩, fun p hp => ⟨fun r hr => ?_, ?_⟩⟩
  · rw [cframe, cframe, BitVec.and_assoc, BitVec.and_self]
  · have hlow : r &&& 0x3F = r := and_low_mask (n := 6) (by bv_omega) (by omega)
    rw [cframe, hp, hlow, BitVec.or_comm]
    rfl
  · simp [cframe, hp, pStart]

/-- Settles O14: the bits the view tests lie outside the operand, and are constant in each kind of frame. -/
theorem frameViewReadsBackEveryFrame : Obligations.FrameViewReadsBackEveryFrame := by
  refine ⟨fun p x hs hr => ?_, fun p x h => ?_⟩
  · refine ⟨viewFrame_of_rframe hs hr x, viewFrame_of_wframe hs hr x, viewFrame_of_cframe hs x, ?_, ?_, ?_, ?_,
      cframe_and_start_ne_zero p x⟩
    · rw [rframe_and hs hr x rfl]; rfl
    · rw [wframe_and hs x rfl]; rfl
    · cases hp : p.start <;> rw [rframe_and hs hr] <;> simp [pStart]
    · cases hp : p.start <;> rw [wframe_and hs] <;> simp [pStart]
  · rw [viewOpcode, h, ← and_one_bit_ne_zero x (k := 5) (by omega), ← and_one_bit_ne_zero x (k := 4) (by omega),
      ← and_one_bit_ne_zero x (k := 3) (by omega)]
    rfl

/-- Settles O15, by running the decoder on each word. -/
theorem tableWordsDecodeToTheirInstruction : Obligations.TableWordsDecodeToTheirInstruction := by
  unfold Obligations.TableWordsDecodeToTheirInstruction
  decide

/-! ### Request words (R115 to R119) -/

theorem decodeRequest_of_top {w : ReqWord} (h : reqTop w ≠ 0) : decodeRequest w = .error .topBitsSet := if_pos h

/-- A word is rejected for its top bits or for its op, and for nothing else (R118). -/
theorem decodeRequest_error_iff (w : ReqWord) :
    (∃ e, decodeRequest w = .error e) ↔ (reqTop w ≠ 0 ∨ (reqOp w).toNat ∈
    [0x07, 0x0E, 0x0F, 0x1E, 0x1F, 0x24, 0x25, 0x26, 0x27, 0x32, 0x33, 0x34, 0x35, 0x36, 0x37]) := by
  by_cases htop : reqTop w = 0
  · have hop : (reqOp w).toNat < 64 := (reqOp w).isLt
    simp only [decodeRequest, htop, ne_eq, not_true_eq_false, if_false, false_or]
    generalize (reqOp w).toNat = op at hop
    interval_cases op <;> simp
  · exact iff_of_true ⟨_, decodeRequest_of_top htop⟩ (.inl htop)

/-- Settles O17: with bits 47:46 clear, the op selects the row. -/
theorem requestWordsNameTheirOperation : Obligations.RequestWordsNameTheirOperation := by
  rintro w op a b d (htop : reqTop w = 0) (hop : (reqOp w).toNat = op) (rfl : (reqA w).toNat = a) (rfl : reqB w = b)
    (rfl : reqData w = d)
  simp only [decodeRequest, htop, hop, ne_eq, not_true_eq_false, if_false]
  and_intros <;> rintro rfl <;> rfl

/-- Settles O18: the decoder's own list, and the priority of R307 for an idle Block. -/
theorem illegalRequestWords : Obligations.IllegalRequestWords := by
  refine ⟨decodeRequest_error_iff, fun s w rest hhost hf hb hw => ?_⟩
  obtain ⟨e, he⟩ := (decodeRequest_error_iff w).mpr hw
  have hr : resetNow s = false := by simp [resetNow, hhost]
  have hq : requestNow s = some w := by simp [requestNow, hhost]
  refine ⟨_, step_of_request hf hr hq, ?_⟩
  rw [present_of_error (s := beginStep s) hb he, raise_spec]
  rfl

/-- A field inside bits 47:40 is a field of those eight bits. -/
theorem extractLsb'_of_head (w : ReqWord) {k n : Nat} (h : k + n ≤ 8) :
    (w.extractLsb' 40 8).extractLsb' k n = w.extractLsb' (40 + k) n := by
  ext i hi
  simp [show k + i < 8 by omega, Nat.add_assoc]

/-- Settles O19: a row reads only the operands of its column. -/
theorem ignoredBitsNeverMatter : Obligations.IgnoredBitsNeverMatter := by
  intro w w' hhead (ha : (reqOp w).toNat ∈ _ → reqA w = reqA w') (hb : (reqOp w).toNat ∈ _ → reqB w = reqB w')
    (hd : (reqOp w).toNat ∈ _ → reqData w = reqData w')
  have htop : reqTop w = reqTop w' := by
    rw [reqTop, reqTop, ← extractLsb'_of_head w (k := 6) (n := 2) le_rfl, hhead, extractLsb'_of_head w' le_rfl]
  have hop : reqOp w = reqOp w' := by
    rw [reqOp, reqOp, ← extractLsb'_of_head w (k := 0) (n := 6) (by omega), hhead, extractLsb'_of_head w' (by omega)]
  rw [decodeRequest, decodeRequest, ← htop, ← hop]
  generalize (reqOp w).toNat = op at ha hb hd
  split_ifs
  · rfl
  · split <;> simp [ha, hb, hd]

/-! ### Decoding inverts encoding -/

/-- What coherent constants give the framer (R102, R106, R111, R114). -/
theorem coherent_frames {c : Chip} (h : c.coherent = true) :
    c.startMode = 0xC0 ∧ c.read = 0x01 ∧ c.rateField &&& 0x07 = 0x07 ∧
    (∀ o ∈ c.opcodes, o &&& 0x3F = o ∧ o &&& c.rateField ≠ o) ∧ c.opcodes.Nodup := by
  simp only [Chip.coherent, Bool.and_eq_true, beq_iff_eq, List.all_eq_true, bne_iff_ne, decide_eq_true_eq] at h
  obtain ⟨⟨⟨⟨⟨⟨⟨hs, hr⟩, hrate⟩, hops⟩, hnodup⟩, _⟩, _⟩, _⟩ := h
  exact ⟨hs, hr, hrate, hops, hnodup⟩

theorem decodeMosi_rframe {p : Params} (h : p.chip.coherent = true) (r : Reg) (rest : List Byte) :
    decodeMosi p (rframe p (p.addr r) :: rest) = (decodeRead p (p.addr r)).map (fun i => (i, rest)) := by
  obtain ⟨hs, hr, -⟩ := coherent_frames h
  simp only [decodeMosi, viewFrame_of_rframe hs hr]
  rw [show p.addr r &&& 0xF = p.addr r from addr_masked h r]

theorem decodeMosi_wframe {p : Params} (h : p.chip.coherent = true) (r : Reg) (rest : List Byte) :
    decodeMosi p (wframe p (p.addr r) :: rest) = decodeWrite p (p.addr r) rest := by
  obtain ⟨hs, hr, -⟩ := coherent_frames h
  simp only [decodeMosi, viewFrame_of_wframe hs hr]
  rw [show p.addr r &&& 0xF = p.addr r from addr_masked h r]

theorem decodeMosi_cframe {p : Params} (h : p.chip.coherent = true) {op : Byte} (hop : op &&& 0x3F = op)
    (rest : List Byte) : decodeMosi p (cframe p op :: rest) = (decodeCommand p op).map (fun i => (i, rest)) := by
  obtain ⟨hs, -⟩ := coherent_frames h
  simp only [decodeMosi, viewFrame_of_cframe hs, hop]

/-- The commands that are no rate decode by their opcodes, which are distinct and outside the rate field (R114). -/
theorem decodeCommand_opcodes {p : Params} (h : p.chip.coherent = true) :
    decodeCommand p p.chip.pdOpcode = .ok .cmdPowerDown ∧ decodeCommand p p.chip.cal0 = .ok .cmdSelfCal ∧
    decodeCommand p p.chip.cal1 = .ok .cmdSysOffCal ∧
    decodeCommand p (p.chip.cal0 ||| p.chip.cal1) = .ok .cmdSysGainCal := by
  obtain ⟨-, -, -, hops, hnodup⟩ := coherent_frames h
  simp only [Chip.opcodes, List.forall_mem_cons, List.not_mem_nil, false_implies, implies_true, and_true] at hops
  simp only [Chip.opcodes, List.nodup_cons, List.mem_cons, List.not_mem_nil, or_false, not_or] at hnodup
  obtain ⟨⟨-, hpd⟩, ⟨-, h0⟩, ⟨-, h1⟩, ⟨-, h01⟩⟩ := hops
  obtain ⟨⟨hpd0, hpd1, hpd01⟩, ⟨h0ne1, h0ne01⟩, h1ne01, -⟩ := hnodup
  refine ⟨?_, ?_, ?_, ?_⟩
  · rw [decodeCommand, if_neg hpd, if_pos rfl]
  · rw [decodeCommand, if_neg h0, if_neg (Ne.symm hpd0), if_pos rfl]
  · rw [decodeCommand, if_neg h1, if_neg (Ne.symm hpd1), if_neg (Ne.symm h0ne1), if_pos rfl]
  · rw [decodeCommand, if_neg h01, if_neg (Ne.symm hpd01), if_neg (Ne.symm h0ne01), if_neg (Ne.symm h1ne01), if_pos rfl]

/-- The rate codes lie inside the rate field (R106). -/
theorem decodeCommand_rate {p : Params} (h : p.chip.coherent = true) {code : Nat} (hc : code < 8) :
    decodeCommand p (BitVec.ofNat 8 code) = .ok (.cmdRate code) := by
  obtain ⟨-, -, hrate, -⟩ := coherent_frames h
  have hlow : BitVec.ofNat 8 code &&& 0x07 = BitVec.ofNat 8 code := and_low_mask (n := 3) (by bv_omega) (by omega)
  have hfield : BitVec.ofNat 8 code &&& p.chip.rateField = BitVec.ofNat 8 code := by
    rw [← hlow, BitVec.and_assoc, BitVec.and_comm 0x07, hrate]
  rw [decodeCommand, if_pos hfield, BitVec.toNat_ofNat, Nat.mod_eq_of_lt (by omega)]

theorem take24_split24 (c : Word24 → Instr) (v : Word24) : take24 c (split24 v) = .ok (c v, []) := by
  rw [split24, take24, join24_split24]

/-- The word of a request decodes to the request (R115 to R117). -/
theorem decodeRequest_of_encode {p : Params} {i : Instr} {w : ReqWord} (hi : wellFormed i = true)
    (he : encode p i = .request w) : decodeRequest w = .ok i := by
  cases i <;> simp only [encode, Encoded.request.injEq, reduceCtorEq] at he <;> subst he
  case setRate a | setGpioDir a _ | getGpioDir a | setGpioValue a _ | getGpioValue a | setGain a =>
    have ha : a < 256 := by simpa [wellFormed, fitsA] using hi
    simp [decodeRequest, Nat.mod_eq_of_lt ha]
  all_goals simp [decodeRequest]

/-- The bytes of a transaction decode to its instruction, and none is left (R101 to R111). -/
theorem decodeMosi_of_encode {p : Params} {i : Instr} {bytes : List Byte} (h : p.chip.coherent = true)
    (hi : wellFormed i = true) (he : encode p i = .mosi bytes) : decodeMosi p bytes = .ok (i, []) := by
  obtain ⟨-, -, -, hops, -⟩ := coherent_frames h
  obtain ⟨hpd, h0, h1, h01⟩ := decodeCommand_opcodes h
  have hcmd {o : Byte} (ho : o ∈ p.chip.opcodes) :
      decodeMosi p [cframe p o] = (decodeCommand p o).map (fun i => (i, [])) := decodeMosi_cframe h (hops o ho).1 []
  cases i <;> simp only [encode, Encoded.mosi.injEq, reduceCtorEq] at he <;> subst he
  case cmdRate code =>
    have hc : code < 8 := by simpa [wellFormed, fitsRate] using hi
    rw [decodeMosi_cframe h (and_low_mask (n := 6) (by bv_omega) (by omega)), decodeCommand_rate h hc]
    rfl
  case cmdPowerDown => rw [hcmd (by simp [Chip.opcodes]), hpd]; rfl
  case cmdSelfCal => rw [hcmd (by simp [Chip.opcodes]), h0]; rfl
  case cmdSysOffCal => rw [hcmd (by simp [Chip.opcodes]), h1]; rfl
  case cmdSysGainCal => rw [hcmd (by simp [Chip.opcodes]), h01]; rfl
  case rframeStat | rframeCtrl1 | rframeCtrl2 | rframeCtrl3 | rframeData | rframeSoc | rframeSgc | rframeScoc
      | rframeScgc =>
    rw [decodeMosi_rframe h, decodeRead, regAt_addr h]
    rfl
  case wframeCtrl1 | wframeCtrl2 | wframeCtrl3 => rw [decodeMosi_wframe h, decodeWrite, regAt_addr h]; rfl
  case wframeSoc | wframeSgc | wframeScoc | wframeScgc =>
    rw [decodeMosi_wframe h, decodeWrite, regAt_addr h]
    exact take24_split24 _ _

/-- Settles O16: a request by the fields of its word, a transaction by the view of its frame byte. -/
theorem decodeOfEncodeIsTheInstruction : Obligations.DecodeOfEncodeIsTheInstruction := by
  refine ⟨by decide, fun p i h hi => ?_⟩
  cases he : encode p i with
  | request w => exact decodeRequest_of_encode hi he
  | mosi bytes => rw [decode, decodeMosi_of_encode h hi he]; rfl

end Sys2Proof

/-! ## The framer family (40_framer.md): the five transactions, and the byte of a read-modify-write

PROOFS. A script of the framer is one transaction: bytes sent whose answers are discarded, then answers kept (R140 to
R144). Whatever the Device answers, a whole transaction changes only the trace, the Device and the request bookkeeping
(R149). -/

namespace Sys2Proof.Machine

/-! ### Every step of a script completes (R145, R171) -/

theorem timedOut_iff {p : Params} {n : Nat} : timedOut p n = true ↔ ∃ N, p.readTimeout = some N ∧ N ≤ n := by
  unfold timedOut
  split <;> simp_all

theorem TimerDutiful.report_ne {s : State} {r : TimerReport} (h : TimerDutiful s) (hr : .done ≠ r) :
    timerReport s ≠ r := by
  rw [TimerDutiful] at h
  rwa [h]

/-- The event of a completed primitive is its beat; a kept exchange is an exchange like a discarded one. -/
theorem Stepped.event {m : Micro} {s t : State} (h : Stepped m s t) :
    (s.waiting = true ∧ t.trace = s.trace) ∨
      ∃ e, t.trace = s.trace ++ [e] ∧ (e.beat = m.prim.beat ∨ (m.prim.beat = .keep ∧ e.beat = .send)) := by
  rcases h.trace with ⟨hw, _, _, ht⟩ | ⟨e, ht, hbeat⟩
  · exact .inl ⟨hw, ht⟩
  · refine .inr ⟨e, ht, ?_⟩
    split_ifs at hbeat with hkeep
    · exact .inr ⟨hkeep, hbeat⟩
    · exact .inl hbeat

/-- Settles O11: a step within the plan goes on, and it is a primitive done, a timed-out sample of `read`, or the
`respond`. -/
theorem everyPrimitiveStepCompletes : Obligations.EveryPrimitiveStepCompletes := by
  intro i s hle ht
  obtain ⟨t, h⟩ := exec_goes_on hle (ht.report_ne (by decide))
  refine ⟨t, h, ?_⟩
  obtain ⟨script, final, v, n, R, ⟨m, hm, hstep⟩ | ⟨hlen, rfl⟩⟩ := exec_prim_or_respond h
  · have hbeat := R.plan_getElem? hm
    refine ⟨fun b hb => ?_, fun hend => ?_⟩
    · obtain rfl : m.prim.beat = b := Option.some.inj (hbeat.symm.trans hb)
      rcases hstep with hdone | hstall | hout
      · exact .inr ⟨hdone.opstep, hdone.event⟩
      · exact absurd hstall.report (ht.report_ne (by decide))
      · exact .inl ⟨(R.sample _ m hm hout.sample).1, timedOut_iff.mp hout.reached, hout.fault, hout.busy⟩
    · simp [hend] at hbeat
  · have hend : s.opstep = (plan i s.pollCount).length := hlen.trans R.length_eq
    exact ⟨fun b hb => by simp [hend] at hb, fun _ => by simp⟩

/-! ### What a transaction changes (R149) -/

/-- The events of a transaction that sends `bytes`: the Device answers `discarded` to them, and `kept` to the dummy
bytes that follow (R140 to R144). -/
def transactionEvents (bytes : List Byte) (dummy : Byte) (discarded kept : List Byte) : List BusEvent :=
  .cs true :: (List.zipWith BusEvent.xfer bytes discarded ++ kept.map (BusEvent.xfer dummy) ++ [.cs false])

theorem play_sends (bytes : List Byte) (s : State) :
    ∃ ms d n, ms.length = bytes.length ∧ play (bytes.map fun o => (Prim.send o).alone) s =
      { s with
        trace  := s.trace ++ List.zipWith BusEvent.xfer bytes ms
        opstep := s.opstep + bytes.length
        dev    := d
        draws  := n } := by
  induction bytes generalizing s with
  | nil => exact ⟨[], s.dev, s.draws, rfl, by simp⟩
  | cons o bytes ih =>
    obtain ⟨m, d, n, hm⟩ := xferDiscard_spec o s
    obtain ⟨ms, d', n', hlen, hplay⟩ := ih (advance (xferDiscard o s))
    refine ⟨m :: ms, d', n', congrArg Nat.succ hlen, ?_⟩
    rw [List.map_cons, play_cons, act_send, hplay, hm]
    simp [advance, Nat.add_assoc, Nat.add_comm 1]

theorem play_recvs (k : Nat) (s : State) :
    ∃ vs d n, vs.length = k ∧ play (List.replicate k Prim.recv.alone) s =
      { s with
        trace  := s.trace ++ vs.map (BusEvent.xfer s.cfg.dummy)
        rx     := s.rx ++ vs
        opstep := s.opstep + k
        dev    := d
        draws  := n } := by
  induction k generalizing s with
  | zero => exact ⟨[], s.dev, s.draws, rfl, by simp⟩
  | succ k ih =>
    obtain ⟨v, d, n, hv⟩ := xferKeep_spec s
    obtain ⟨vs, d', n', hlen, hplay⟩ := ih (advance (xferKeep s))
    refine ⟨v :: vs, d', n', congrArg Nat.succ hlen, ?_⟩
    rw [List.replicate_succ, play_cons, act_recv, hplay, hv]
    simp [advance, Nat.add_assoc, Nat.add_comm 1]

/-- A transaction: its events, chip select deasserted after it, and the kept bytes received. -/
theorem play_transaction_spec (bytes : List Byte) (k : Nat) (s : State) :
    ∃ ms vs d n, ms.length = bytes.length ∧ vs.length = k ∧ play (transaction bytes k) s =
      { s with
        trace  := s.trace ++ transactionEvents bytes s.cfg.dummy ms vs
        cs     := false
        rx     := s.rx ++ vs
        opstep := s.opstep + (bytes.length + k + 2)
        dev    := d
        draws  := n } := by
  obtain ⟨ms, d, n, hms, hsend⟩ := play_sends bytes (advance (chipSelect true s))
  obtain ⟨vs, d', n', hvs, hrecv⟩ :=
    play_recvs k (play (bytes.map fun o => (Prim.send o).alone) (advance (chipSelect true s)))
  refine ⟨ms, vs, d'.select, n', hms, hvs, ?_⟩
  rw [play_transaction, hrecv, hsend]
  simp [advance, chipSelect, emit, transactionEvents, Nat.add_assoc, Nat.add_left_comm 1]

/-- An operation that is one transaction, whatever the Device answers (R149, R171). -/
theorem execSteps_transaction {i : Instr} {s : State} {bytes : List Byte} {k : Nat} {value : List Byte → Word32}
    (hs : AtStart s)
    (h : ∀ u : State, u.cfg = s.cfg → exec i u = runScript (transaction bytes k) [] (value u.rx) u) :
    ∃ ms vs d n, ms.length = bytes.length ∧ vs.length = k ∧ execSteps i (bytes.length + k + 3) s =
      .next (afterOperation s (transactionEvents bytes s.cfg.dummy ms vs) (value vs) d n) := by
  obtain ⟨hop, hrx, _⟩ := hs
  obtain ⟨ms, vs, d, n, hms, hvs, hplay⟩ := play_transaction_spec bytes k s
  have hrun := execSteps_script h hop (transaction_atOnce _ _)
  rw [transaction_length, hplay, hrx] at hrun
  exact ⟨ms, vs, d, n, hms, hvs, hrun⟩

/-- An operation whose script has ended responds. -/
theorem exec_responded {i : Instr} {s : State} {script : List Micro} {v : Word32}
    (h : exec i s = runScript script [] v s) (hop : s.opstep = script.length) : exec i s = .next (responded s v) :=
  h.trans (runScript_respond hop)

/-! ### The framer's scripts are transactions (R140, R141, R144) -/

theorem readByte_eq (p : Params) (addr : Byte) : readByte p addr = transaction [rframe p addr] 1 := rfl
theorem readTriple_eq (p : Params) (addr : Byte) : readTriple p addr = transaction [rframe p addr] 3 := rfl
theorem sendCommand_eq (p : Params) (op : Byte) : sendCommand p op = transaction [cframe p op] 0 := rfl

/-! ### Frame bytes: truncation (R101, R103, R104), and the registers of R7 -/

theorem rframe_truncates (p : Params) (addr : Byte) : rframe p (addr &&& 0xF) = rframe p addr := by
  rw [rframe, rframe, BitVec.and_assoc, BitVec.and_self]

theorem wframe_truncates (p : Params) (addr : Byte) : wframe p (addr &&& 0xF) = wframe p addr := by
  rw [wframe, wframe, BitVec.and_assoc, BitVec.and_self]

theorem cframe_truncates (p : Params) (op : Byte) : cframe p (op &&& 0x3F) = cframe p op := by
  rw [cframe, cframe, BitVec.and_assoc, BitVec.and_self]

theorem rframe_addr_default {p : Params} (h : p.chip = .default) (r : Reg) :
    rframe p (p.addr r) = ((RegAddr.default.at r &&& 0xF) <<< 1) ||| 0xC1 := by
  rw [rframe_eq (by rw [h]; rfl) (by rw [h]; rfl), Params.addr, h]
  rfl

theorem wframe_addr_default {p : Params} (h : p.chip = .default) (r : Reg) :
    wframe p (p.addr r) = ((RegAddr.default.at r &&& 0xF) <<< 1) ||| 0xC0 := by
  rw [wframe_eq (by rw [h]; rfl), Params.addr, h]
  rfl

/-! ### The shapes of a result, from what `exec` runs -/

theorem readsByte_of_exec {i : Instr} {reg : Params → Reg} {frame : Byte} {value : Params → Byte → Word32}
    {literal : Byte → Word32}
    (h : ∀ u, exec i u = runScript (readByte u.cfg (u.cfg.addr (reg u.cfg))) [] (value u.cfg (byteRead u)) u)
    (hliteral : ∀ p : Params, p.chip = .default →
      rframe p (p.addr (reg p)) = frame ∧ ∀ v, value p v = literal v) :
    ReadsByte i reg frame value literal := by
  refine ⟨fun s hs => ?_, fun s v hop hrx => ?_, hliteral⟩
  · obtain ⟨ms, vs, d, n, hms, hvs, hrun⟩ := execSteps_transaction
      (bytes := [rframe s.cfg (s.cfg.addr (reg s.cfg))]) (k := 1) (value := fun rx => value s.cfg (rx.headD 0)) hs
      (fun u hu => by rw [h, hu]; rfl)
    obtain ⟨m, rfl⟩ := List.length_eq_one_iff.mp hms
    obtain ⟨v, rfl⟩ := List.length_eq_one_iff.mp hvs
    exact ⟨m, v, d, n, hrun⟩
  · rw [exec_responded (h s) hop, byteRead, hrx]
    rfl

theorem readsTriple_of_exec {i : Instr} {reg : Reg} {frame : Byte} (h : ∀ u, exec i u = runGetTriple reg u)
    (hframe : ((RegAddr.default.at reg &&& 0xF) <<< 1) ||| 0xC1 = frame) : ReadsTriple i reg frame := by
  refine ⟨fun s hs => ?_, fun s b2 b1 b0 hop hrx => ?_, fun p hp => (rframe_addr_default hp reg).trans hframe⟩
  · obtain ⟨ms, vs, d, n, hms, hvs, hrun⟩ := execSteps_transaction (bytes := [rframe s.cfg (s.cfg.addr reg)]) (k := 3)
      (value := fun rx => sext32 (join24 (rx.getD 0 0) (rx.getD 1 0) (rx.getD 2 0))) hs
      (fun u hu => by rw [h, runGetTriple, hu]; rfl)
    obtain ⟨m, rfl⟩ := List.length_eq_one_iff.mp hms
    obtain ⟨b2, b1, b0, rfl⟩ := List.length_eq_three.mp hvs
    exact ⟨m, b2, b1, b0, d, n, hrun⟩
  · rw [exec_responded (h s) hop, tripleRead, hrx]
    rfl

theorem writesByte_of_exec {i : Instr} {reg : Reg} {frame data : Byte} (h : ∀ u, exec i u = runWriteByte reg data u)
    (hframe : ((RegAddr.default.at reg &&& 0xF) <<< 1) ||| 0xC0 = frame) : WritesByte i reg frame data := by
  refine ⟨fun s hs => ?_, fun s hop => exec_responded (h s) hop,
    fun p hp => (wframe_addr_default hp reg).trans hframe⟩
  obtain ⟨ms, vs, d, n, hms, hvs, hrun⟩ := execSteps_transaction (bytes := [wframe s.cfg (s.cfg.addr reg), data])
    (k := 0) (value := fun _ => 0) hs (fun u hu => by rw [h, runWriteByte, hu]; rfl)
  obtain ⟨m, m', rfl⟩ := List.length_eq_two.mp hms
  obtain rfl := List.length_eq_zero_iff.mp hvs
  exact ⟨m, m', d, n, hrun⟩

theorem writesTriple_of_exec {i : Instr} {reg : Reg} {frame : Byte} {data : Word24}
    (h : ∀ u, exec i u = runSetTriple reg data u)
    (hframe : ((RegAddr.default.at reg &&& 0xF) <<< 1) ||| 0xC0 = frame) : WritesTriple i reg frame data := by
  refine ⟨fun s hs => ?_, fun s hop => exec_responded (h s) hop,
    fun p hp => (wframe_addr_default hp reg).trans hframe⟩
  obtain ⟨ms, vs, d, n, hms, hvs, hrun⟩ := execSteps_transaction
    (bytes := wframe s.cfg (s.cfg.addr reg) :: split24 data) (k := 0) (value := fun _ => 0) hs
    (fun u hu => by rw [h, runSetTriple, hu]; rfl)
  obtain ⟨m, m2, m1, m0, rfl⟩ := List.length_eq_four.mp hms
  obtain rfl := List.length_eq_zero_iff.mp hvs
  exact ⟨m, m2, m1, m0, d, n, hrun⟩

theorem sendsCommand_of_exec {i : Instr} {opcode : Params → Byte} {literal : Byte}
    (h : ∀ u, exec i u = runCommand (opcode u.cfg) u)
    (hliteral : ∀ p : Params, p.chip = .default → opcode p = literal) : SendsCommand i opcode literal := by
  refine ⟨fun s hs => ?_, fun s hop => exec_responded (h s) hop, hliteral⟩
  obtain ⟨ms, vs, d, n, hms, hvs, hrun⟩ := execSteps_transaction (bytes := [cframe s.cfg (opcode s.cfg)]) (k := 0)
    (value := fun _ => 0) hs (fun u hu => by rw [h, runCommand, hu]; rfl)
  obtain ⟨m, rfl⟩ := List.length_eq_one_iff.mp hms
  obtain rfl := List.length_eq_zero_iff.mp hvs
  rw [cframe_eq_commandByte] at hrun
  exact ⟨m, d, n, hrun⟩

/-! ### Obligations on the frame rows -/

theorem readsByte_frame {i : Instr} {r : Reg} {frame : Byte} (h : ∀ u, exec i u = runReadByte r u)
    (hframe : ((RegAddr.default.at r &&& 0xF) <<< 1) ||| 0xC1 = frame) :
    ReadsByte i (fun _ => r) frame (fun _ v => v.setWidth 32) (BitVec.setWidth 32) :=
  readsByte_of_exec h fun _ hp => ⟨(rframe_addr_default hp r).trans hframe, fun _ => rfl⟩

/-- Settles O20: each row is one `readByte`. -/
theorem readByteFrames : Obligations.ReadByteFrames :=
  ⟨readsByte_frame (fun _ => rfl) rfl, readsByte_frame (fun _ => rfl) rfl, readsByte_frame (fun _ => rfl) rfl,
    readsByte_frame (fun _ => rfl) rfl, fun p addr => by rw [readByte_eq, readByte_eq, rframe_truncates]⟩

/-- Settles O21: each row is one `readTriple`; the corner values are computed. -/
theorem readTripleFrames : Obligations.ReadTripleFrames :=
  ⟨readsTriple_of_exec (fun _ => rfl) rfl, readsTriple_of_exec (fun _ => rfl) rfl,
    readsTriple_of_exec (fun _ => rfl) rfl, readsTriple_of_exec (fun _ => rfl) rfl,
    readsTriple_of_exec (fun _ => rfl) rfl, fun p addr => by rw [readTriple_eq, readTriple_eq, rframe_truncates],
    by decide, by decide, by decide, by decide⟩

/-- Settles O22: each row is one `writeByte`. -/
theorem writeByteFrames : Obligations.WriteByteFrames := fun v =>
  ⟨writesByte_of_exec (fun _ => rfl) rfl, writesByte_of_exec (fun _ => rfl) rfl, writesByte_of_exec (fun _ => rfl) rfl,
    fun p addr => by rw [writeByte_eq, writeByte_eq, wframe_truncates]⟩

/-- Settles O23: each row is one `writeTriple`. -/
theorem writeTripleFrames : Obligations.WriteTripleFrames := fun v =>
  ⟨writesTriple_of_exec (fun _ => rfl) rfl, writesTriple_of_exec (fun _ => rfl) rfl,
    writesTriple_of_exec (fun _ => rfl) rfl, writesTriple_of_exec (fun _ => rfl) rfl,
    fun p addr => by rw [writeTriple_eq, writeTriple_eq, wframe_truncates]⟩

/-- Settles O24: each row is one `sendCommand`. -/
theorem commandFramesSendOneByte : Obligations.CommandFramesSendOneByte := by
  refine ⟨fun code _ => sendsCommand_of_exec (fun _ => rfl) (fun _ _ => rfl), ?_, ?_, ?_, ?_,
    fun p op => by rw [sendCommand_eq, sendCommand_eq, cframe_truncates]⟩
  all_goals exact sendsCommand_of_exec (fun _ => rfl) (fun p hp => by rw [hp]; rfl)

/-! ### The byte of a read-modify-write (R146) -/

theorem compl_and_mask (mask : Byte) : (0xFF ^^^ mask) &&& mask = 0 := by
  have hcompl : 0xFF ^^^ mask = ~~~mask := BitVec.allOnes_xor
  rw [hcompl, BitVec.not_and_self]

/-- Outside its mask the new byte is the old one. -/
theorem withBit_and_compl (f : Field) (value : Bool) (old : Byte) :
    withBit f value old &&& (0xFF ^^^ f.mask) = old &&& (0xFF ^^^ f.mask) := by
  refine masked_or_and_mask old ?_
  cases value
  · exact BitVec.zero_and
  · exact (BitVec.and_comm _ _).trans (compl_and_mask f.mask)

/-- Under its mask the new byte is the value. -/
theorem withBit_and_mask (f : Field) (value : Bool) (old : Byte) :
    withBit f value old &&& f.mask = if value then f.mask else 0 := by
  rw [withBit, masked_or_and_of_disjoint _ _ (compl_and_mask f.mask)]
  cases value
  · exact BitVec.zero_and
  · exact BitVec.and_self

/-- Settles O25: the old byte stands outside the mask and the value under it. -/
theorem modifiedByteKeepsOtherBits : Obligations.ModifiedByteKeepsOtherBits := by
  refine fun f value old => ⟨rfl, withBit_and_compl f value old, withBit_and_mask f value old, ?_⟩
  rw [withBit_and_compl, withBit_and_compl]

end Sys2Proof.Machine

/-! ## The sequencer family (41_sequencer.md): acceptance, the phase, and the scripts of the sequencer

PROOFS. A legal request is entered as the operation in flight (R170), the phase changes only with the primitives R160
names, and begin, end, the calibrations, setRate and read run their scripts part by part: transactions, settle waits and
poll turns (R161 to R167). -/

namespace Sys2Proof.Machine

/-! ### Requests: the word of an operation (R116), and the phase it needs (R170, R302) -/

/-- `RequestOf` in the fields the decoder reads (R115). -/
theorem requestOf_of_fields {op : Nat} {a : Option Nat} {b : Option Bool} {d : Option Word24} {i : Instr}
    (h : ∀ w, reqTop w = 0 → (reqOp w).toNat = op → (∀ x, a = some x → (reqA w).toNat = x) →
      (∀ x, b = some x → reqB w = x) → (∀ x, d = some x → reqData w = x) → decodeRequest w = .ok i) :
    RequestOf op a b d i := h

/-- Every operation but `begin` needs `begin` (R302). -/
theorem needsBegin_of_ne {i : Instr} (hi : i ≠ .beginOp) : NeedsBegin i := by
  intro s w rest hhost hf hb hp hd
  have hr : resetNow s = false := by simp [resetNow, hhost]
  have hq : requestNow s = some w := by simp [requestNow, hhost]
  refine ⟨_, step_of_request hf hr hq, ?_⟩
  rw [present_of_uninitialized (s := beginStep s) hb hd hp hi, raise_spec]
  exact ⟨rfl, rfl, rfl, fun hcs => by simp [hcs]⟩

/-- Settles O3: the Host's move is taken, and the request is accepted. -/
theorem legalRequestIsAccepted : Obligations.LegalRequestIsAccepted := by
  intro s w i rest hhost hf hb hd hp
  have hlegal : s.phase = .uninitialized → i = .beginOp := fun h => hp.resolve_left (not_not_intro h)
  have hr : resetNow s = false := by rcases hhost with h | h <;> simp [resetNow, h]
  have hq : requestNow s = some w := by rcases hhost with h | h <;> simp [requestNow, h, hb]
  have hbegin : beginStep s = { s with hostIn := rest, respValid := false } := by
    rcases hhost with h | h <;> simp [beginStep, h, hb]
  rw [step_of_request hf hr hq, present_of_legal (s := beginStep s) hb hd hlegal, hbegin]
  rfl

/-! ### The phase changes as R160 says -/

/-- What R160 lets a step of instruction `i` do to the phase: the clauses of PhaseChangesOnlyAsTheTableSays on the
instruction in flight. -/
def PhaseMove (i : Instr) (s t : State) : Prop :=
  (i = .beginOp ∧ t.opstep = s.opstep + 1 ∧
    ((s.opstep = 0 ∧ t.phase = .configuring) ∨ (s.opstep = 16 ∧ t.phase = .calibrated) ∨
     (s.opstep = 19 ∧ t.phase = .converting))) ∨
  ((i = .selfCal ∨ i = .sysOffsetCal ∨ i = .sysGainCal) ∧ s.opstep = 3 ∧ t.opstep = 4 ∧ t.phase = .calibrated) ∨
  (∃ a, i = .setRate a ∧ s.opstep = 2 ∧ t.opstep = 3 ∧ t.phase = .converting) ∨
  (i = .endOp ∧ s.opstep = 4 ∧ t.phase = .uninitialized ∧ t.busy = false)

/-- A completed primitive whose script permits the phase it leaves. -/
theorem phaseMove_of_permits {i : Instr} {s t : State} {p : Params} (h : Permits p i s.opstep (.phase t.phase))
    (hop : t.opstep = s.opstep + 1) : PhaseMove i s t := by
  cases i <;> simp only [Permits] at h
  case beginOp => exact .inl ⟨rfl, hop, h⟩
  case selfCal | sysOffsetCal | sysGainCal =>
    obtain ⟨h3, hp⟩ := h
    exact .inr (.inl ⟨by simp, h3, by rw [hop, h3], hp⟩)
  case setRate a =>
    obtain ⟨h2, hp⟩ := h
    exact .inr (.inr (.inl ⟨a, rfl, h2, by rw [hop, h2], hp⟩))

/-- A step of an instruction that changes the phase completes a primitive with such an assignment, or is the `respond`
of `end`. -/
theorem exec_phase {i : Instr} {s t : State} (h : exec i s = .next t) (hne : t.phase ≠ s.phase) :
    PhaseMove i s t := by
  obtain ⟨script, final, v, n, R, ⟨m, hm, hdone | hstall | hout⟩ | ⟨hlen, rfl⟩⟩ := exec_prim_or_respond h
  · have hmem := hdone.assigned.phase.resolve_left hne
    exact phaseMove_of_permits (R.assigns _ m hm _ hmem) hdone.opstep
  · have hmem := hstall.assigned.phase.resolve_left hne
    rw [R.delays _ m hm hstall.delays] at hmem
    cases hmem
  · have hmem := hout.assigned.phase.resolve_left hne
    obtain ⟨rfl, _⟩ := R.sample _ m hm hout.sample
    exact (R.assigns _ m hm _ (List.mem_append_left _ hmem)).elim
  · rw [R.length_eq] at hlen
    rw [R.final] at hne ⊢
    by_cases hi : i = .endOp
    · subst hi
      exact .inr (.inr (.inr ⟨rfl, hlen, by simp [assign], rfl⟩))
    · exact absurd (by simp [hi]) hne

/-- A presentation changes the phase only where it accepts `begin` (R160). -/
theorem present_phase {w : ReqWord} {s : State} (hne : (present w s).phase ≠ s.phase) :
    s.busy = false ∧ decodeRequest w = .ok .beginOp ∧ present w s = accept w .beginOp s := by
  rcases present_spec w s with ⟨_, h⟩ | ⟨_, _, h⟩ | ⟨_, _, h⟩ | ⟨hb, i, hd, _, h⟩ <;> rw [h] at hne
  case inr.inr.inr =>
    have hi : i = .beginOp := by
      by_contra hi
      exact hne (by simp [hi])
    subst hi
    exact ⟨hb, hd, h⟩
  all_goals exact absurd (by rw [raise_spec]) hne

/-- Settles O47, by the kinds of step: a reset, a presentation, a step of the instruction in flight, waiting. -/
theorem phaseChangesOnlyAsTheTableSays : Obligations.PhaseChangesOnlyAsTheTableSays := by
  intro s t h hne
  rcases step_cases s with ⟨hr, hs⟩ | ⟨_, _, hs⟩ | ⟨_, _, w, _, hs⟩ |
    ⟨_, _, _, hb, ⟨i, hi, hs⟩ | ⟨_, hs⟩⟩ | ⟨_, _, _, _, hs⟩ <;> rw [h] at hs
  · obtain rfl := Host.Outcome.next.inj hs
    have hreset : ∃ rest, s.hostIn = .reset :: rest := by
      by_contra hno
      exact absurd (hr.symm.trans ((resetNow_eq_false_iff s).mpr (not_exists.mp hno))) (by decide)
    exact .inl ⟨hreset, rfl⟩
  · cases hs
  · obtain rfl := Host.Outcome.next.inj hs
    obtain ⟨hb, hd, haccept⟩ := present_phase (s := beginStep s) hne
    rw [haccept]
    exact .inr (.inl ⟨hb, rfl, by simp, w, rfl, hd⟩)
  · exact .inr (.inr ⟨hb, i, hi, exec_phase (s := beginStep s) hs.symm hne⟩)
  · cases hs
  · obtain rfl := Host.Outcome.next.inj hs
    exact absurd rfl hne

/-! ### The parts of a script as played: transactions and the assignments around them -/

theorem play_sendCommand (p : Params) (op : Byte) (s : State) :
    ∃ m d n, play (sendCommand p op) s = { s with
      trace := s.trace ++ commandEvents (commandByte p.start op) m
      cs := false, opstep := s.opstep + 3, dev := d, draws := n } := by
  obtain ⟨ms, vs, d, n, hms, hvs, hplay⟩ := play_transaction_spec [cframe p op] 0 s
  obtain ⟨m, rfl⟩ := List.length_eq_one_iff.mp hms
  obtain rfl := List.length_eq_zero_iff.mp hvs
  rw [List.append_nil, cframe_eq_commandByte] at hplay
  exact ⟨m, d, n, by rw [sendCommand_eq, cframe_eq_commandByte, hplay]; rfl⟩

theorem play_writeByte (p : Params) (addr v : Byte) (s : State) :
    ∃ m m' d n, play (writeByte p addr v) s = { s with
      trace := s.trace ++ writeByteEvents (wframe p addr) v m m'
      cs := false, opstep := s.opstep + 4, dev := d, draws := n } := by
  obtain ⟨ms, vs, d, n, hms, hvs, hplay⟩ := play_transaction_spec [wframe p addr, v] 0 s
  obtain ⟨m, m', rfl⟩ := List.length_eq_two.mp hms
  obtain rfl := List.length_eq_zero_iff.mp hvs
  rw [List.append_nil] at hplay
  exact ⟨m, m', d, n, by rw [writeByte_eq, hplay]; rfl⟩

theorem play_readTriple (p : Params) (addr : Byte) (s : State) :
    ∃ m b2 b1 b0 d n, play (readTriple p addr) s = { s with
      trace := s.trace ++ readTripleEvents (rframe p addr) s.cfg.dummy m b2 b1 b0
      cs := false, rx := s.rx ++ [b2, b1, b0], opstep := s.opstep + 6, dev := d, draws := n } := by
  obtain ⟨ms, vs, d, n, hms, hvs, hplay⟩ := play_transaction_spec [rframe p addr] 3 s
  obtain ⟨m, rfl⟩ := List.length_eq_one_iff.mp hms
  obtain ⟨b2, b1, b0, rfl⟩ := List.length_eq_three.mp hvs
  exact ⟨m, b2, b1, b0, d, n, by rw [readTriple_eq, hplay]; rfl⟩

theorem sendCommand_atOnce (p : Params) (op : Byte) : ∀ m ∈ sendCommand p op, m.prim.atOnce = true :=
  transaction_atOnce [cframe p op] 0

/-- A command as a part of an operation. -/
theorem execSteps_sendCommand {i : Instr} {s : State} {op : Byte} (k : Nat) (h : Follows i s (sendCommand s.cfg op)) :
    ∃ m d n, execSteps i (3 + k) s = execSteps i k { s with
      trace := s.trace ++ commandEvents (commandByte s.cfg.start op) m
      cs := false, opstep := s.opstep + 3, dev := d, draws := n } := by
  obtain ⟨m, d, n, hplay⟩ := play_sendCommand s.cfg op s
  exact ⟨m, d, n, (execSteps_play h (sendCommand_atOnce _ _) rfl).trans (by rw [hplay])⟩

theorem sendCommand_ne_nil (p : Params) (op : Byte) : sendCommand p op ≠ [] := List.cons_ne_nil _ _

/-- Assignments after the last primitive are played last. -/
theorem play_endWith (as : List Assign) {ms : List Micro} (h : ms ≠ []) (s : State) :
    play (endWith as ms) s = assignAll as (play ms s) := by
  induction ms generalizing s with
  | nil => exact absurd rfl h
  | cons m ms ih =>
    cases ms with
    | nil => simp [endWith, Micro.act, complete, assignAll]
    | cons m' ms => exact ih (List.cons_ne_nil _ _) (m.act s)

theorem TimerDutiful.of_timerIn {s t : State} (h : TimerDutiful s) (ht : t.timerIn = s.timerIn) : TimerDutiful t := by
  rw [TimerDutiful, timerReport, ht]
  exact h

/-! ### setRate (R167) -/

theorem execSteps_setRate {a : Nat} {s : State} (hs : AtStart s) : ∃ m d n, execSteps (.setRate a) 4 s =
    .next { (afterOperation s (commandEvents (commandByte s.cfg.start (rateOpcode s.cfg.rateArgMask a)) m) 0 d n) with
      phase := .converting, rateMirror := some (rateMirrorOf a) } := by
  obtain ⟨hop, _, _⟩ := hs
  obtain ⟨m, d, n, hplay⟩ := play_sendCommand s.cfg (rateOpcode s.cfg.rateArgMask a)
    (assignAll [.rateMirror (rateMirrorOf a)] s)
  have hparts : play (startWith [.rateMirror (rateMirrorOf a)]
      (endWith [.phase .converting] (sendCommand s.cfg (rateOpcode s.cfg.rateArgMask a)))) s =
      assignAll [.phase .converting] (play (sendCommand s.cfg (rateOpcode s.cfg.rateArgMask a))
        (assignAll [.rateMirror (rateMirrorOf a)] s)) :=
    (play_startWith _ _ _ s).trans (play_endWith _ (sendCommand_ne_nil _ _) _)
  have hrun := execSteps_script (i := .setRate a) (value := fun _ => 0)
    (fun u hu => by rw [exec, execSetRate, hu]) hop
    (by simp [startWith, endWith, sendCommand, Prim.alone, Prim.atOnce])
  exact ⟨m, d, n, hrun.trans (by rw [hparts, hplay]; rfl)⟩

/-- Settles O41: one command, the mirror assigned before it and the phase after it. -/
theorem setRateCommandsAndRemembers : Obligations.SetRateCommandsAndRemembers := by
  refine fun a => ⟨fun s hs => execSteps_setRate hs, fun s hop => exec_responded rfl hop, ?_⟩
  simp only [List.forall_mem_singleton]
  exact ⟨requestOf_of_fields fun w htop hop ha _ _ => by simp [decodeRequest, htop, hop, ha a rfl],
    needsBegin_of_ne (by simp)⟩

/-! ### end (R162) -/

/-- `end` begins with the power-down command. -/
theorem follows_endCommand {s : State} (hop : s.opstep = 0) :
    Follows .endOp s (sendCommand s.cfg s.cfg.chip.pdOpcode) := by
  intro k m u hk hu hcfg _ _
  have hlt := (List.getElem?_eq_some_iff.mp hk).1
  rw [exec, execEnd, hcfg, runScript_prim]
  rw [hu, hop, Nat.zero_add, List.getElem?_append_left hlt, hk]

/-- The step of `end` that tears the bus down. -/
theorem exec_end_teardown {s : State} (hop : s.opstep = 3) :
    exec .endOp s = .next { s with busCfg := none, trace := s.trace ++ [.teardown], opstep := 4 } := by
  rw [exec, execEnd, runScript_prim (m := Prim.teardown.alone) (by rw [hop]; rfl),
    show 4 = s.opstep + 1 by rw [hop]]
  rfl

/-- The step of `end` that completes it (R160). -/
theorem exec_end_respond {s : State} (hop : s.opstep = 4) :
    exec .endOp s = .next { (responded s 0) with phase := .uninitialized } :=
  runScript_respond hop

theorem execSteps_end {s : State} (hs : AtStart s) : ∃ m d n, execSteps .endOp 5 s = .next { (afterOperation s
    (commandEvents (commandByte s.cfg.start s.cfg.chip.pdOpcode) m ++ [.teardown]) 0 d n) with
      phase := .uninitialized, busCfg := none } := by
  obtain ⟨hop, _, _⟩ := hs
  obtain ⟨m, d, n, hcommand⟩ := execSteps_sendCommand 2 (follows_endCommand hop)
  refine ⟨m, d, n, hcommand.trans ((execSteps_of_next (exec_end_teardown (congrArg (· + 3) hop))).trans
    ((execSteps_of_next (exec_end_respond rfl)).trans ?_))⟩
  rw [afterOperation, ← List.append_assoc]
  rfl

/-- Settles O40: the command, the teardown, and the phase with the `respond`. -/
theorem endPowersDownAndTearsDown : Obligations.EndPowersDownAndTearsDown := by
  refine ⟨fun s hs => execSteps_end hs, fun s hop => exec_end_teardown hop, fun s hop => exec_end_respond hop,
    fun p hp => by rw [hp]; rfl, ?_⟩
  simp only [List.forall_mem_singleton]
  exact ⟨requestOf_of_fields fun w htop hop _ _ _ => by simp [decodeRequest, htop, hop], needsBegin_of_ne (by simp)⟩

/-! ### The calibrations (R163 to R165) -/

/-- A calibration on a dutiful timer: the command, the settle wait, and the `respond`. -/
theorem execSteps_calibration {i : Instr} {s : State} {op : Byte} {T : Nat} (hs : AtStart s) (ht : TimerDutiful s)
    (h : ∀ u : State, u.cfg = s.cfg → exec i u = runScript (calibration s.cfg op T) [] 0 u)
    (hdue : ∀ u : State, u.cfg = s.cfg → u.opstep = 3 → delayDue i u = some (.delayMs T)) (hi : i ≠ .readOp) :
    ∃ m d n, execSteps i 5 s = .next { (afterOperation s
      (commandEvents (commandByte s.cfg.start op) m ++ [.delayMs T]) 0 d n) with
        phase := .calibrated, timerIn := s.timerIn.tail } := by
  obtain ⟨hop, _, hw⟩ := hs
  have hfollows : Follows i s (sendCommand s.cfg op) :=
    follows_of_runScript (before := []) (fun u hu _ _ => ⟨_, _, h u hu⟩) hop
  obtain ⟨m, d, n, hcommand⟩ := execSteps_sendCommand 2 hfollows
  refine ⟨m, d, n, hcommand.trans ((execSteps_of_next (exec_delay_done (hdue _ ?cfg ?due) ?dutiful)).trans
    ((execSteps_of_next ((h _ ?cfg').trans (runScript_respond ?ended))).trans ?result))⟩
  case result =>
    rw [afterOperation, ← List.append_assoc, hw, phaseAfterDelay, if_neg hi]
    rfl
  case cfg | cfg' => rfl
  case due => exact congrArg (· + 3) hop
  case dutiful => exact ht
  case ended => exact congrArg (· + 3 + 1) hop

theorem calibrations_exec_respond {i : Instr} {s : State}
    (hi : i ∈ [Instr.selfCal, .sysOffsetCal, .sysGainCal]) (hop : s.opstep = 4) :
    exec i s = .next (responded s 0) := by
  simp only [List.mem_cons, List.not_mem_nil, or_false] at hi
  rcases hi with rfl | rfl | rfl <;> exact exec_responded rfl hop

/-- Settles O37: each is one calibration, with its opcode and its settle time. -/
theorem calibrationsCommandAndSettle : Obligations.CalibrationsCommandAndSettle := by
  refine ⟨fun s hs ht => ⟨?_, ?_, ?_⟩, fun s i hi hop => calibrations_exec_respond hi hop, fun p hp => ?_, ?_⟩
  · obtain ⟨m, d, n, hrun⟩ := execSteps_calibration (i := .selfCal) hs ht
      (fun u hu => by rw [exec, execSelfCal, hu]) (fun u hu hop => by rw [delayDue, if_pos hop, hu]) (by simp)
    exact ⟨_, m, d, n, rfl, hrun⟩
  · obtain ⟨m, d, n, hrun⟩ := execSteps_calibration (i := .sysOffsetCal) hs ht
      (fun u hu => by rw [exec, execSysOffsetCal, hu]) (fun u hu hop => by rw [delayDue, if_pos hop, hu]) (by simp)
    exact ⟨_, m, d, n, rfl, hrun⟩
  · obtain ⟨m, d, n, hrun⟩ := execSteps_calibration (i := .sysGainCal) hs ht
      (fun u hu => by rw [exec, execSysGainCal, hu]) (fun u hu hop => by rw [delayDue, if_pos hop, hu]) (by simp)
    exact ⟨_, m, d, n, rfl, hrun⟩
  · rw [tSelfcalMs, tSyscalMs, hp]
    exact ⟨rfl, rfl, rfl, Nat.le_add_right _ _, Nat.le_add_right _ _⟩
  · simp only [List.forall_mem_cons, List.not_mem_nil, false_implies, implies_true, and_true]
    refine ⟨⟨requestOf_of_fields fun w htop hop _ _ _ => ?_, needsBegin_of_ne (by simp)⟩,
      ⟨requestOf_of_fields fun w htop hop _ _ _ => ?_, needsBegin_of_ne (by simp)⟩,
      ⟨requestOf_of_fields fun w htop hop _ _ _ => ?_, needsBegin_of_ne (by simp)⟩⟩
    all_goals simp [decodeRequest, htop, hop]

/-! ### begin (R161) -/

/-- The first step of `begin` configures the bus and enters `Configuring`. -/
theorem exec_begin_configure {s : State} (hop : s.opstep = 0) :
    exec .beginOp s = .next { s with
      phase := .configuring, busCfg := some ⟨.msbFirst, s.cfg.clkDiv, s.cfg.spiMode⟩, opstep := 1,
      trace := s.trace ++ [.cfgBus ⟨.msbFirst, s.cfg.clkDiv, s.cfg.spiMode⟩] } := by
  rw [exec, execBegin, runScript_prim (m := ⟨[.phase .configuring], .cfgBus, []⟩) (by rw [hop]; rfl),
    show 1 = s.opstep + 1 by rw [hop]]
  rfl

/-- `begin`'s settle wait. -/
theorem delayDue_begin {s : State} (hop : s.opstep = 16) :
    delayDue .beginOp s = some (.delayMs (tSelfcalMs s.cfg)) := if_pos hop

/-- The last step of `begin`'s rate command enters `Converting`. -/
theorem exec_begin_rateDone {s : State} (hop : s.opstep = 19) :
    exec .beginOp s = .next { s with
      phase := .converting, rateMirror := some (BitVec.ofNat 3 s.cfg.chip.defaultRate), opstep := 20,
      cs := false, trace := s.trace ++ [.cs false], dev := s.dev.select } := by
  rw [exec, execBegin, runScript_prim
    (m := ⟨[], .cs false, [.rateMirror (rateMirrorOf s.cfg.chip.defaultRate), .phase .converting]⟩)
    (by rw [hop]; rfl), show 20 = s.opstep + 1 by rw [hop]]
  rfl

/-- Settles O55: the primitives of `begin` at 0, 16 and 19 with the assignments beside them. -/
theorem beginEntersEachPhaseWithItsStep : Obligations.BeginEntersEachPhaseWithItsStep := by
  refine ⟨fun s hop => exec_begin_configure hop, fun s hop ht => ?_, fun s hop => exec_begin_rateDone hop⟩
  rw [exec_delay_done (delayDue_begin hop) ht, hop]
  rfl

/-- `begin` up to its settle wait: the configuration, the three default bytes and the calibration command. -/
theorem play_beginSetup (s : State) : ∃ m1 m2 m3 m4 m5 m6 m7 d n, play (beginSetup s.cfg) s = { s with
    phase := .configuring, busCfg := some ⟨.msbFirst, s.cfg.clkDiv, s.cfg.spiMode⟩
    trace := s.trace ++ ([.cfgBus ⟨.msbFirst, s.cfg.clkDiv, s.cfg.spiMode⟩] ++
        writeByteEvents (wframe s.cfg (s.cfg.addr .ctrl1)) s.cfg.chip.defaultCtrl1 m1 m2 ++
        writeByteEvents (wframe s.cfg (s.cfg.addr .ctrl2)) s.cfg.chip.defaultCtrl2 m3 m4 ++
        writeByteEvents (wframe s.cfg (s.cfg.addr .ctrl3)) s.cfg.chip.defaultCtrl3 m5 m6 ++
        commandEvents (commandByte s.cfg.start s.cfg.chip.cal0) m7)
    cs := false, opstep := s.opstep + 16, dev := d, draws := n } := by
  obtain ⟨m1, m2, d1, n1, h1⟩ := play_writeByte s.cfg (s.cfg.addr .ctrl1) s.cfg.chip.defaultCtrl1
    (Micro.act ⟨[.phase .configuring], .cfgBus, []⟩ s)
  obtain ⟨m3, m4, d2, n2, h2⟩ := play_writeByte s.cfg (s.cfg.addr .ctrl2) s.cfg.chip.defaultCtrl2 (play _ _)
  obtain ⟨m5, m6, d3, n3, h3⟩ := play_writeByte s.cfg (s.cfg.addr .ctrl3) s.cfg.chip.defaultCtrl3 (play _ _)
  obtain ⟨m7, d, n, h4⟩ := play_sendCommand s.cfg s.cfg.chip.cal0 (play _ _)
  refine ⟨m1, m2, m3, m4, m5, m6, m7, d, n, ?_⟩
  simp only [beginSetup, play_cons, play_append]
  rw [h4, h3, h2, h1]
  simp [Micro.act, Prim.act, cfgBus, emit, complete, advance, assignAll, assign, pBitOrder]

/-- `begin` after its settle wait: the rate command, and the assignments after it. -/
theorem play_beginRate (p : Params) (s : State) : ∃ m d n, play (beginRate p) s = { s with
    phase := .converting, rateMirror := some (rateMirrorOf p.chip.defaultRate)
    trace := s.trace ++ commandEvents (commandByte p.start (rateOpcode p.rateArgMask p.chip.defaultRate)) m
    cs := false, opstep := s.opstep + 3, dev := d, draws := n } := by
  obtain ⟨m, d, n, hplay⟩ := play_sendCommand p (rateOpcode p.rateArgMask p.chip.defaultRate) s
  exact ⟨m, d, n, by rw [beginRate, play_endWith _ (sendCommand_ne_nil _ _), hplay]; rfl⟩

theorem exec_begin {p : Params} {s : State} (h : s.cfg = p) :
    exec .beginOp s = runScript (beginSetup p ++ beginWait p :: beginRate p) [] 0 s := by
  rw [exec, execBegin, h, beginScript_eq]

/-- The last four steps of `begin`: its rate command and the `respond`. -/
theorem execSteps_beginRate {s : State} (hop : s.opstep = 17) : ∃ m d n, execSteps .beginOp 4 s =
    .next (respond 0 { s with
      phase := .converting, rateMirror := some (rateMirrorOf s.cfg.chip.defaultRate)
      trace := s.trace ++
        commandEvents (commandByte s.cfg.start (rateOpcode s.cfg.rateArgMask s.cfg.chip.defaultRate)) m
      cs := false, dev := d, draws := n }) := by
  have hfollows : Follows .beginOp s (beginRate s.cfg) :=
    follows_of_runScript (before := beginSetup s.cfg ++ [beginWait s.cfg])
      (fun u hu _ _ => ⟨[], 0, by rw [exec_begin hu]; simp⟩) hop
  have hlast : (play (beginRate s.cfg) s).opstep = 20 := by rw [play_opstep, hop]; rfl
  obtain ⟨m, d, n, hplay⟩ := play_beginRate s.cfg s
  refine ⟨m, d, n, (execSteps_play_last hfollows (beginRate_atOnce _)
    ((exec_begin (play_cfg _ s)).trans (runScript_respond hlast)) rfl).trans ?_⟩
  rw [hplay]
  rfl

/-- The last five steps of `begin` on a dutiful timer: its settle wait, its rate command and the `respond`. -/
theorem execSteps_beginWait {s : State} (hop : s.opstep = 16) (hw : s.waiting = false) (ht : TimerDutiful s) :
    ∃ m d n, execSteps .beginOp 5 s = .next (respond 0 { s with
      phase := .converting, rateMirror := some (rateMirrorOf s.cfg.chip.defaultRate)
      trace := s.trace ++ ([.delayMs (tSelfcalMs s.cfg)] ++
        commandEvents (commandByte s.cfg.start (rateOpcode s.cfg.rateArgMask s.cfg.chip.defaultRate)) m)
      cs := false, timerIn := s.timerIn.tail, dev := d, draws := n }) := by
  obtain ⟨m, d, n, hrate⟩ := execSteps_beginRate (s := { s with
    phase := .calibrated, trace := s.trace ++ [.delayMs (tSelfcalMs s.cfg)], timerIn := s.timerIn.tail
    opstep := 17, waiting := false }) rfl
  have hwait := exec_delay_done (delayDue_begin hop) ht
  rw [hw, hop] at hwait
  refine ⟨m, d, n, (execSteps_of_next hwait).trans ?_⟩
  rw [← List.append_assoc]
  exact hrate

/-- `begin` on a dutiful timer. -/
theorem execSteps_begin {s : State} (hs : AtStart s) (ht : TimerDutiful s) : ∃ m1 m2 m3 m4 m5 m6 m7 m8 d n,
    execSteps .beginOp 21 s = .next { (afterOperation s
      ([.cfgBus ⟨.msbFirst, s.cfg.clkDiv, s.cfg.spiMode⟩] ++
        writeByteEvents (wframe s.cfg (s.cfg.addr .ctrl1)) s.cfg.chip.defaultCtrl1 m1 m2 ++
        writeByteEvents (wframe s.cfg (s.cfg.addr .ctrl2)) s.cfg.chip.defaultCtrl2 m3 m4 ++
        writeByteEvents (wframe s.cfg (s.cfg.addr .ctrl3)) s.cfg.chip.defaultCtrl3 m5 m6 ++
        commandEvents (commandByte s.cfg.start s.cfg.chip.cal0) m7 ++ [.delayMs (tSelfcalMs s.cfg)] ++
        commandEvents (commandByte s.cfg.start (rateOpcode s.cfg.rateArgMask s.cfg.chip.defaultRate)) m8) 0 d n) with
      phase := .converting, busCfg := some ⟨.msbFirst, s.cfg.clkDiv, s.cfg.spiMode⟩
      rateMirror := some (rateMirrorOf s.cfg.chip.defaultRate)
      timerIn := s.timerIn.tail } := by
  obtain ⟨hop, _, hw⟩ := hs
  have hfollows : Follows .beginOp s (beginSetup s.cfg) :=
    follows_of_runScript (before := []) (fun u hu _ _ => ⟨_, _, exec_begin hu⟩) hop
  have hsetup := execSteps_play (n := 5) hfollows (beginSetup_atOnce _) rfl
  have hop16 : (play (beginSetup s.cfg) s).opstep = 16 := by rw [play_opstep, hop]; rfl
  obtain ⟨m1, m2, m3, m4, m5, m6, m7, d1, n1, hplay⟩ := play_beginSetup s
  rw [hplay] at hsetup hop16
  obtain ⟨m8, d, n, hwait⟩ := execSteps_beginWait hop16 hw ht
  refine ⟨m1, m2, m3, m4, m5, m6, m7, m8, d, n, hsetup.trans (hwait.trans ?_)⟩
  simp only [afterOperation, List.append_assoc]
  rfl

/-- Settles O39: the three parts of `begin`'s script, one after the other. -/
theorem beginRunsTheWholeScript : Obligations.BeginRunsTheWholeScript := by
  refine ⟨fun s hs ht => ?_, fun s hop => exec_responded rfl hop, fun p hp => ?_,
    requestOf_of_fields fun w htop hop _ _ _ => by simp [decodeRequest, htop, hop]⟩
  · obtain ⟨m1, m2, m3, m4, m5, m6, m7, m8, d, n, hrun⟩ := execSteps_begin hs ht
    exact ⟨_, m1, m2, m3, m4, m5, m6, m7, m8, d, n, rfl, hrun⟩
  · refine ⟨wframe_addr_default hp _, wframe_addr_default hp _, wframe_addr_default hp _, ?_⟩
    rw [tSelfcalMs, hp]
    exact ⟨rfl, rfl, rfl, rfl, Nat.le_add_right _ _, by cases p.rateArgMask <;> rfl, rfl⟩

/-! ### read (R166) -/

/-- Where `read` samples the ready line once more (R166). -/
theorem readScript_sample (p : Params) (n : Nat) : (readScript p n)[2 * n]? = some Prim.sample.alone := by
  induction n with
  | zero => rfl
  | succ n ih => rw [readScript_succ]; exact ih

theorem readScript_length (p : Params) (n : Nat) : (readScript p n).length = 2 * n + 7 := by
  rw [← plan_read_length n, ← readScript_beats p n, List.length_map]

/-- A sample whose level is scripted (R84). -/
theorem sampleReady_of_scripted {s : State} {l : Bool} {ls : List Bool} (h : s.readyIn = l :: ls) :
    sampleReady s = (l, { s with readyIn := ls, trace := s.trace ++ [.ready l] }) :=
  scriptedAnswersAreReceivedInOrder.2 s l ls h

/-- After its delays `read` samples, and then decides (R166). -/
theorem exec_read_poll {s : State} (hop : s.opstep = 2 * s.pollCount) : exec .readOp s = .next (poll [] s) := by
  rw [exec, execRead, runScript_prim (m := Prim.sample.alone) (by rw [hop, readScript_sample])]
  rfl

/-- The asserted level ends the loop. -/
theorem exec_read_ready {s : State} {ls : List Bool} (hop : s.opstep = 2 * s.pollCount)
    (hready : s.readyIn = s.cfg.readyAsserted :: ls) :
    exec .readOp s = .next { s with
      trace := s.trace ++ [.ready s.cfg.readyAsserted], readyIn := ls, opstep := s.opstep + 1 } := by
  rw [exec_read_poll hop, poll, sampleReady_of_scripted hready, if_pos rfl]
  rfl

/-- A level that is not asserted is counted, and a delay is due (R166). -/
theorem exec_read_notReady {s : State} {l : Bool} {ls : List Bool} (hop : s.opstep = 2 * s.pollCount)
    (hready : s.readyIn = l :: ls) (hl : l ≠ s.cfg.readyAsserted)
    (hin : timedOut s.cfg (s.pollCount + 1) = false) :
    exec .readOp s = .next { s with
      trace := s.trace ++ [.ready l], readyIn := ls, pollCount := s.pollCount + 1, opstep := s.opstep + 1 } := by
  simp only [exec_read_poll hop, poll, sampleReady_of_scripted hready, if_neg hl, hin]
  rfl

/-- The level that brings the count to P_READ_TIMEOUT raises ReadTimeout (R306). -/
theorem exec_read_timeout {s : State} {l : Bool} {ls : List Bool} (hop : s.opstep = 2 * s.pollCount)
    (hready : s.readyIn = l :: ls) (hl : l ≠ s.cfg.readyAsserted)
    (hout : timedOut s.cfg (s.pollCount + 1) = true) :
    exec .readOp s = .next (raise .readTimeout { s with
      trace := s.trace ++ [.ready l], readyIn := ls, pollCount := s.pollCount + 1 }) := by
  simp only [exec_read_poll hop, poll, sampleReady_of_scripted hready, if_neg hl, hout]
  rfl

/-- The events of `k` turns of `read`'s loop (R166). -/
def pollEvents (p : Params) (k : Nat) : List BusEvent :=
  (List.replicate k [BusEvent.ready (!p.readyAsserted), .delayUs p.chip.pollUs]).flatten

@[simp] theorem pollEvents_zero (p : Params) : pollEvents p 0 = [] := rfl

@[simp] theorem pollEvents_succ (p : Params) (k : Nat) :
    pollEvents p (k + 1) = .ready (!p.readyAsserted) :: .delayUs p.chip.pollUs :: pollEvents p k := by
  simp [pollEvents, List.replicate_succ]

/-- The poll interval after a sample that was counted (R166). -/
theorem delayDue_read {s : State} (hop : s.opstep + 1 = 2 * s.pollCount) :
    delayDue .readOp s = some (.delayUs s.cfg.chip.pollUs) := if_pos (by omega)

/-- One turn of `read`'s loop: a sample and a delay. -/
theorem execSteps_pollTurn {s : State} {ls : List Bool} (n : Nat) (hop : s.opstep = 2 * s.pollCount)
    (hw : s.waiting = false) (hready : s.readyIn = (!s.cfg.readyAsserted) :: ls) (ht : TimerDutiful s)
    (hin : timedOut s.cfg (s.pollCount + 1) = false) :
    execSteps .readOp (n + 2) s = execSteps .readOp n { s with
      trace := s.trace ++ [.ready (!s.cfg.readyAsserted), .delayUs s.cfg.chip.pollUs]
      readyIn := ls, pollCount := s.pollCount + 1, opstep := s.opstep + 2, timerIn := s.timerIn.tail } := by
  rw [execSteps_of_next (exec_read_notReady hop hready (by simp) hin)]
  refine (execSteps_of_next (exec_delay_done (delayDue_read ?_) ?_)).trans ?_
  · exact congrArg (· + 2) hop
  · exact ht
  · simp [hw, phaseAfterDelay]

/-- `k` turns of `read`'s loop on a dutiful timer, below P_READ_TIMEOUT (R166, R306). -/
theorem execSteps_polls (k n : Nat) {s : State} {levels : List Bool} (hop : s.opstep = 2 * s.pollCount)
    (hw : s.waiting = false) (hready : s.readyIn = List.replicate k (!s.cfg.readyAsserted) ++ levels)
    (ht : ∀ r ∈ s.timerIn.take k, r = .done) (hin : ∀ N, s.cfg.readTimeout = some N → s.pollCount + k < N) :
    execSteps .readOp (2 * k + n) s = execSteps .readOp n { s with
      trace := s.trace ++ pollEvents s.cfg k, readyIn := levels, pollCount := s.pollCount + k
      opstep := 2 * (s.pollCount + k), timerIn := s.timerIn.drop k } := by
  induction k generalizing s with
  | zero =>
    have hlevels : s.readyIn = levels := hready
    simp [← hop, ← hlevels]
  | succ k ih =>
    have hdutiful : TimerDutiful s := by
      rcases htimer : s.timerIn with _ | ⟨r, rest⟩
      · simp [TimerDutiful, timerReport, htimer]
      · simp [TimerDutiful, timerReport, htimer, ht r (by simp [htimer])]
    have hcount : timedOut s.cfg (s.pollCount + 1) = false := by
      by_contra h
      obtain ⟨N, hN, hle⟩ := timedOut_iff.mp (Bool.eq_true_of_not_eq_false h)
      have := hin N hN
      omega
    rw [show 2 * (k + 1) + n = 2 * k + n + 2 by omega, execSteps_pollTurn _ hop hw hready hdutiful hcount]
    refine (ih ?_ ?_ ?_ ?_ ?_).trans ?_
    · exact congrArg (· + 2) hop
    · exact hw
    · rfl
    · exact fun r hr => ht r (List.mem_of_mem_tail (by rwa [List.tail_take_eq_take_tail]))
    · intro N hN
      have := hin N hN
      dsimp only
      omega
    · simp [Nat.add_assoc, Nat.add_comm 1]

theorem follows_readTriple {s : State} (hop : s.opstep = 2 * s.pollCount + 1) :
    Follows .readOp s (readTriple s.cfg (s.cfg.addr .data)) :=
  follows_of_runScript
    (before := (List.replicate s.pollCount [Prim.sample.alone, (Prim.delayUs s.cfg.chip.pollUs).alone]).flatten ++
      [Prim.sample.alone])
    (fun u hu hp _ => ⟨[], _, by rw [exec, execRead, hu, hp, readScript, List.append_nil]⟩)
    (by simp [hop, Nat.mul_comm])

/-- The last step of `read` responds the sample, sign-extended (R141, R171). -/
theorem exec_read_respond {s : State} {b2 b1 b0 : Byte} (hop : s.opstep = 2 * s.pollCount + 7)
    (hrx : s.rx = [b2, b1, b0]) : exec .readOp s = .next (responded s (BitVec.signExtend 32 (b2 ++ b1 ++ b0))) := by
  have hrun := exec_responded (i := .readOp) (s := s) rfl (hop.trans (readScript_length _ _).symm)
  rw [hrun, tripleRead, hrx]
  rfl

/-- `read` after its loop: one `readTriple` of DATA, and the `respond`. -/
theorem execSteps_readData {s : State} (hop : s.opstep = 2 * s.pollCount + 1) (hrx : s.rx = []) :
    ∃ m b2 b1 b0 d n, execSteps .readOp 7 s = .next (afterOperation s
      (readTripleEvents (rframe s.cfg (s.cfg.addr .data)) s.cfg.dummy m b2 b1 b0)
      (BitVec.signExtend 32 (b2 ++ b1 ++ b0)) d n) := by
  obtain ⟨m, b2, b1, b0, d, n, hplay⟩ := play_readTriple s.cfg (s.cfg.addr .data) s
  have hlast : exec .readOp (play (readTriple s.cfg (s.cfg.addr .data)) s) = _ :=
    exec_read_respond (by rw [play_opstep, play_pollCount, hop]; rfl) (by rw [hplay, hrx]; rfl)
  refine ⟨m, b2, b1, b0, d, n, (execSteps_play_last (follows_readTriple hop) (transaction_atOnce [rframe _ _] 3)
    hlast rfl).trans ?_⟩
  rw [hplay]
  rfl

/-- `read` on a line that is asserted after `k` not-ready samples. -/
theorem execSteps_read {k : Nat} {s : State} {levels : List Bool} (hs : AtStart s) (hpolls : s.pollCount = 0)
    (hready : s.readyIn = List.replicate k (!s.cfg.readyAsserted) ++ s.cfg.readyAsserted :: levels)
    (ht : ∀ r ∈ s.timerIn.take k, r = .done) (hin : ∀ N, s.cfg.readTimeout = some N → k < N) :
    ∃ m b2 b1 b0 d n, execSteps .readOp (2 * k + 8) s = .next { (afterOperation s
      (pollEvents s.cfg k ++ [.ready s.cfg.readyAsserted] ++
        readTripleEvents (rframe s.cfg (s.cfg.addr .data)) s.cfg.dummy m b2 b1 b0)
      (BitVec.signExtend 32 (b2 ++ b1 ++ b0)) d n) with
      pollCount := k, readyIn := levels, timerIn := s.timerIn.drop k } := by
  obtain ⟨hop, hrx, hw⟩ := hs
  have hloop := execSteps_polls k 8 (by rw [hop, hpolls]) hw hready ht (by rwa [hpolls, Nat.zero_add])
  have hsample := exec_read_ready (s := { s with
      trace := s.trace ++ pollEvents s.cfg k, readyIn := s.cfg.readyAsserted :: levels, pollCount := s.pollCount + k
      opstep := 2 * (s.pollCount + k), timerIn := s.timerIn.drop k }) rfl rfl
  obtain ⟨m, b2, b1, b0, d, n, hdata⟩ := execSteps_readData (s := { s with
      trace := s.trace ++ pollEvents s.cfg k ++ [.ready s.cfg.readyAsserted], readyIn := levels
      pollCount := s.pollCount + k, opstep := 2 * (s.pollCount + k) + 1, timerIn := s.timerIn.drop k }) rfl hrx
  refine ⟨m, b2, b1, b0, d, n, hloop.trans ((execSteps_of_next hsample).trans (hdata.trans ?_))⟩
  simp only [afterOperation, hpolls, Nat.zero_add, List.append_assoc]

/-- Settles O42: the turns of the loop, the asserted sample, and the DATA read. -/
theorem readPollsThenReadsData : Obligations.ReadPollsThenReadsData := by
  refine ⟨fun k s levels hs hpolls hready ht hin => execSteps_read hs hpolls hready ht hin,
    fun s b2 b1 b0 hop hrx => exec_read_respond hop hrx, fun s l ls N hop hready hl hN hle => ?_,
    fun p hp => ⟨rframe_addr_default hp _, by rw [hp]; rfl⟩, ?_⟩
  · refine ⟨_, exec_read_timeout hop hready hl (timedOut_iff.mpr ⟨N, hN, hle⟩), ?_⟩
    rw [raise_spec]
    exact ⟨rfl, rfl, rfl⟩
  · simp only [List.forall_mem_singleton]
    exact ⟨requestOf_of_fields fun w htop hop _ _ _ => by simp [decodeRequest, htop, hop], needsBegin_of_ne (by simp)⟩

end Sys2Proof.Machine

/-! ## The status family (42_status.md): the STAT getters

PROOFS. A getter of a field of FIELD_MAP is one `readByte` of the field's register, and responds the field of the byte
read (R148); its request has no operand. Both are said for every field and every such request, and applied to the six
fields of STAT (R50). -/

namespace Sys2Proof.Machine

/-- A getter of a field (R148), with the frame byte and the field that the constants of R7 give. -/
theorem readsField_of_exec {i : Instr} {field : FieldMap → Field} {frame : Byte} {literal : Byte → Word32}
    (h : ∀ u, exec i u = runGetField (field u.cfg.chip.fields) u)
    (hframe : ((RegAddr.default.at (field .default).reg &&& 0xF) <<< 1) ||| 0xC1 = frame)
    (hliteral : ∀ v, zext32 (fieldOf (field .default) v) = literal v) : ReadsField i field frame literal := by
  refine readsByte_of_exec h fun p hp => ⟨(rframe_addr_default hp _).trans ?_, fun v => ?_⟩
  · rw [fieldReg, hp]
    exact hframe
  · rw [fieldValue, hp]
    exact hliteral v

/-- A getter of a single bit. -/
theorem readsBit_of_exec {i : Instr} {field : FieldMap → Field} {frame : Byte} {k : Nat}
    (h : ∀ u, exec i u = runGetField (field u.cfg.chip.fields) u)
    (hframe : ((RegAddr.default.at (field .default).reg &&& 0xF) <<< 1) ||| 0xC1 = frame)
    (hmask : (field .default).mask = 1#8 <<< k) (hshift : (field .default).shift = k) (hk : k < 8) :
    ReadsField i field frame (bitOf k) :=
  readsField_of_exec h hframe (zext32_fieldOf_bit hmask hshift hk)

/-- A request without operands, but for `begin`: its op names it (R115, R116), and it needs `begin` (R302). -/
theorem requestOf_and_needsBegin_of_op {op : Nat} {i : Instr}
    (h : ∀ w, reqTop w = 0 → (reqOp w).toNat = op → decodeRequest w = .ok i) (hi : i ≠ .beginOp) :
    RequestOf op none none none i ∧ NeedsBegin i :=
  ⟨requestOf_of_fields fun w htop hop _ _ _ => h w htop hop, needsBegin_of_ne hi⟩

/-- Settles O26: five bits and the rate field of the STAT byte, and the six requests. -/
theorem statusGettersReadStat : Obligations.StatusGettersReadStat := by
  refine ⟨readsBit_of_exec (fun _ => rfl) rfl rfl rfl (by decide),
    readsBit_of_exec (fun _ => rfl) rfl rfl rfl (by decide),
    readsBit_of_exec (fun _ => rfl) rfl rfl rfl (by decide),
    readsBit_of_exec (fun _ => rfl) rfl rfl rfl (by decide),
    readsField_of_exec (fun _ => rfl) rfl (fun _ => rfl),
    readsBit_of_exec (fun _ => rfl) rfl rfl rfl (by decide), ?_⟩
  simp only [List.forall_mem_cons, List.not_mem_nil, false_implies, implies_true, and_true]
  refine ⟨?_, ?_, ?_, ?_, ?_, ?_⟩
  all_goals
    exact requestOf_and_needsBegin_of_op (fun w htop hop => by simp [decodeRequest, htop, hop]) (by simp)

end Sys2Proof.Machine

/-! ## The CTRL1 family (43_config_ctrl1.md): getters, setters and the mirror of the conversion mode

PROOFS. A setter of a bit is one read-modify-write: a `readByte`, and a `writeByte` of the byte received with that bit
set (R146). That is said for every new byte (R147 too) and for assignments before the read, as `setConvMode` has one
(R222); on RefDev a setter ends where the same setter can begin, so setting back is the same lemma once more (R224). -/

namespace Sys2Proof.Machine

/-! ### A read-modify-write, whatever the Device answers (R146, R147) -/

theorem play_readByte (p : Params) (addr : Byte) (s : State) :
    ∃ m v d n, play (readByte p addr) s = { s with
      trace := s.trace ++ readByteEvents (rframe p addr) s.cfg.dummy m v
      cs := false, rx := s.rx ++ [v], opstep := s.opstep + 4, dev := d, draws := n } := by
  obtain ⟨ms, vs, d, n, hms, hvs, hplay⟩ := play_transaction_spec [rframe p addr] 1 s
  obtain ⟨m, rfl⟩ := List.length_eq_one_iff.mp hms
  obtain ⟨v, rfl⟩ := List.length_eq_one_iff.mp hvs
  exact ⟨m, v, d, n, by rw [readByte_eq, hplay]; rfl⟩

/-- The write of a read-modify-write, once the byte `old` has been received: the last five steps. -/
theorem execSteps_modifiedWrite {i : Instr} {s : State} {addr old : Byte} {rest : List Byte} {new : Byte → Byte}
    {before : List Micro} (hop : s.opstep = before.length) (hrx : s.rx = old :: rest)
    (h : ∀ u : State, u.cfg = s.cfg →
      exec i u = runScript (before ++ writeByte s.cfg addr (new (byteRead u))) [] 0 u) :
    ∃ m0 m1 d n, execSteps i 5 s = .next (respond 0 { s with
      trace := s.trace ++ writeByteEvents (wframe s.cfg addr) (new old) m0 m1
      cs := false, opstep := s.opstep + 4, dev := d, draws := n }) := by
  have hwrite : Follows i s (writeByte s.cfg addr (new old)) := by
    refine follows_of_runScript (before := before) (fun u hu _ hgot => ⟨[], 0, ?_⟩) hop
    obtain ⟨more, hmore⟩ := hgot
    have hold : byteRead u = old := by rw [byteRead, ← hmore, hrx]; rfl
    rw [h u hu, hold, List.append_nil]
  have hlast := (h (play (writeByte s.cfg addr (new old)) s) (play_cfg _ s)).trans
    (runScript_respond (by rw [play_opstep, hop, List.length_append]; rfl))
  obtain ⟨m0, m1, d, n, hplay⟩ := play_writeByte s.cfg addr (new old) s
  refine ⟨m0, m1, d, n, (execSteps_play_last hwrite (transaction_atOnce [_, _] 0) hlast rfl).trans ?_⟩
  rw [hplay]
  rfl

/-- An operation that is one read-modify-write, with assignments before its first primitive. -/
theorem execSteps_modify {i : Instr} {s : State} {addr : Byte} {new : Byte → Byte} (as : List Assign) (hs : AtStart s)
    (h : ∀ u : State, u.cfg = s.cfg → exec i u =
      runScript (startWith as (readByte s.cfg addr) ++ writeByte s.cfg addr (new (byteRead u))) [] 0 u) :
    ∃ m old m0 m1 d n, execSteps i 9 s = .next (afterOperation (assignAll as s)
      (readByteEvents (rframe s.cfg addr) s.cfg.dummy m old ++ writeByteEvents (wframe s.cfg addr) (new old) m0 m1)
      0 d n) := by
  obtain ⟨hop, hrx, _⟩ := hs
  have hread : Follows i s (startWith as (readByte s.cfg addr)) :=
    follows_of_runScript (before := []) (fun u hu _ _ => ⟨_, _, h u hu⟩) hop
  have hreads := execSteps_play (n := 5) hread (by simp [startWith, readByte, Prim.alone, Prim.atOnce]) rfl
  obtain ⟨m, old, d1, n1, hplay⟩ := play_readByte s.cfg addr (assignAll as s)
  have hstart : play (startWith as (readByte s.cfg addr)) s = play (readByte s.cfg addr) (assignAll as s) :=
    play_startWith as _ _ s
  have hcfg : (play (readByte s.cfg addr) (assignAll as s)).cfg = s.cfg := by rw [play_cfg, assignAll_cfg]
  obtain ⟨m0, m1, d, n, hwrites⟩ := execSteps_modifiedWrite (i := i) (old := old) (rest := []) (addr := addr)
    (new := new) (s := play (readByte s.cfg addr) (assignAll as s)) (before := startWith as (readByte s.cfg addr))
    (by rw [play_opstep, assignAll_opstep, hop]; rfl) (by rw [hplay, assignAll_rx, hrx]; rfl)
    (by rw [hcfg]; exact h)
  refine ⟨m, old, m0, m1, d, n, hreads.trans ?_⟩
  rw [hstart, hwrites, hcfg, hplay, afterOperation, ← List.append_assoc, assignAll_cfg]
  rfl

/-- A read-modify-write of a register, with the frame bytes and the new byte that the constants of R7 give. -/
theorem modifies_of_exec {i : Instr} {reg : Params → Reg} {r : Reg} {rf wf : Byte} {new : Params → Byte → Byte}
    {literal : Byte → Byte}
    (h : ∀ u, exec i u = runScript (readByte u.cfg (u.cfg.addr (reg u.cfg)) ++
      writeByte u.cfg (u.cfg.addr (reg u.cfg)) (new u.cfg (byteRead u))) [] 0 u)
    (hrf : ((RegAddr.default.at r &&& 0xF) <<< 1) ||| 0xC1 = rf)
    (hwf : ((RegAddr.default.at r &&& 0xF) <<< 1) ||| 0xC0 = wf)
    (hliteral : ∀ p : Params, p.chip = .default → reg p = r ∧ ∀ old, new p old = literal old) :
    Modifies i reg rf wf new literal := by
  refine ⟨fun s hs => execSteps_modify (new := new s.cfg) [] hs fun u hu => by rw [h, hu]; rfl,
    fun s hop => exec_responded (h s) hop, fun p hp => ?_⟩
  obtain ⟨hreg, hnew⟩ := hliteral p hp
  rw [hreg]
  exact ⟨(rframe_addr_default hp r).trans hrf, (wframe_addr_default hp r).trans hwf, hnew⟩

/-- A setter of a single-bit field (R146). -/
theorem modifiesBit_of_exec {i : Instr} {field : FieldMap → Field} {rf wf mask : Byte} {b : Bool}
    (h : ∀ u, exec i u = runSetBit (field u.cfg.chip.fields) b u)
    (hrf : ((RegAddr.default.at (field .default).reg &&& 0xF) <<< 1) ||| 0xC1 = rf)
    (hwf : ((RegAddr.default.at (field .default).reg &&& 0xF) <<< 1) ||| 0xC0 = wf)
    (hmask : (field .default).mask = mask) : ModifiesBit i field rf wf mask b := by
  refine modifies_of_exec h hrf hwf fun p hp => ?_
  rw [fieldReg, hp, ← hmask]
  exact ⟨rfl, fun _ => rfl⟩

/-- A request whose only operand is its bit `b` (R115, R116), and that needs `begin` (R302). -/
theorem requestOf_and_needsBegin_of_bit {op : Nat} {b : Bool} {i : Instr}
    (h : ∀ w, reqTop w = 0 → (reqOp w).toNat = op → reqB w = b → decodeRequest w = .ok i) (hi : i ≠ .beginOp) :
    RequestOf op none (some b) none i ∧ NeedsBegin i :=
  ⟨requestOf_of_fields fun w htop hop _ hb _ => h w htop hop (hb b rfl), needsBegin_of_ne hi⟩

/-! ### The accessors of CTRL1 (R51) -/

/-- Settles O27: seven bits of the CTRL1 byte, and the seven requests. -/
theorem ctrl1GettersReadTheirBit : Obligations.Ctrl1GettersReadTheirBit := by
  refine ⟨readsBit_of_exec (fun _ => rfl) rfl rfl rfl (by decide),
    readsBit_of_exec (fun _ => rfl) rfl rfl rfl (by decide),
    readsBit_of_exec (fun _ => rfl) rfl rfl rfl (by decide),
    readsBit_of_exec (fun _ => rfl) rfl rfl rfl (by decide),
    readsBit_of_exec (fun _ => rfl) rfl rfl rfl (by decide),
    readsBit_of_exec (fun _ => rfl) rfl rfl rfl (by decide),
    readsBit_of_exec (fun _ => rfl) rfl rfl rfl (by decide), ?_⟩
  simp only [List.forall_mem_cons, List.not_mem_nil, false_implies, implies_true, and_true]
  refine ⟨?_, ?_, ?_, ?_, ?_, ?_, ?_⟩
  all_goals
    exact requestOf_and_needsBegin_of_op (fun w htop hop => by simp [decodeRequest, htop, hop]) (by simp)

/-- Settles O28: six bits of CTRL1, each by one `setBit`, and the six requests. -/
theorem ctrl1SettersModifyTheirBit : Obligations.Ctrl1SettersModifyTheirBit := by
  refine fun b => ⟨modifiesBit_of_exec (fun _ => rfl) rfl rfl rfl, modifiesBit_of_exec (fun _ => rfl) rfl rfl rfl,
    modifiesBit_of_exec (fun _ => rfl) rfl rfl rfl, modifiesBit_of_exec (fun _ => rfl) rfl rfl rfl,
    modifiesBit_of_exec (fun _ => rfl) rfl rfl rfl, modifiesBit_of_exec (fun _ => rfl) rfl rfl rfl, ?_⟩
  simp only [List.forall_mem_cons, List.not_mem_nil, false_implies, implies_true, and_true]
  refine ⟨?_, ?_, ?_, ?_, ?_, ?_⟩
  all_goals
    exact requestOf_and_needsBegin_of_bit (fun w htop hop hb => by simp [decodeRequest, htop, hop, hb]) (by simp)

/-! ### setConvMode (R222) -/

/-- The first step of `setConvMode` writes the mirror and selects the chip. -/
theorem exec_setConvMode_first {b : Bool} {s : State} (hop : s.opstep = 0) :
    exec (.setConvMode b) s = .next { s with
      scycleMirror := some b, cs := true, trace := s.trace ++ [.cs true], dev := s.dev.select, opstep := 1 } := by
  rw [exec, execSetConvMode, runScript_prim (m := ⟨[.scycleMirror b], .cs true, []⟩) (by rw [hop]; rfl),
    show 1 = s.opstep + 1 by rw [hop]]
  rfl

/-- Settles O29: a read-modify-write with the mirror assigned before it. -/
theorem setConvModeWritesMirrorAndBit : Obligations.SetConvModeWritesMirrorAndBit := by
  refine fun b s => ⟨fun hs => ?_, fun hop => exec_setConvMode_first hop, fun hop => exec_responded rfl hop,
    fun p hp => ?_, ?_⟩
  · exact execSteps_modify (new := bitSet s.cfg.chip.fields.scycle.mask b) [.scycleMirror b] hs
      fun u hu => by rw [exec, execSetConvMode, setBit, hu]; rfl
  · have hreg : p.chip.fields.scycle.reg = .ctrl1 := by rw [hp]; rfl
    rw [hreg]
    exact ⟨rframe_addr_default hp .ctrl1, wframe_addr_default hp .ctrl1, by rw [hp]; rfl⟩
  · simp only [List.forall_mem_singleton]
    exact requestOf_and_needsBegin_of_bit (fun w htop hop hb => by simp [decodeRequest, htop, hop, hb]) (by simp)

/-! ### Setting and setting back on the reference device (R224) -/

/-- A bit set and set to the other value: the other bits are the old ones, and the bit has the last value. -/
theorem bitSet_not_bitSet (f : Field) (b : Bool) (old : Byte) :
    bitSet f.mask (!b) (bitSet f.mask b old) &&& (0xFF ^^^ f.mask) = old &&& (0xFF ^^^ f.mask) ∧
      bitSet f.mask (!b) (bitSet f.mask b old) &&& f.mask = if b then 0 else f.mask := by
  obtain ⟨_, _, _, hkept⟩ := modifiedByteKeepsOtherBits f b old
  have hset := withBit_and_mask f (!b) (withBit f b old)
  exact ⟨hkept, hset.trans (by cases b <;> rfl)⟩

/-- A setter of a bit of CTRL1 on the reference device: it stores the new byte, and leaves the machine where the next
operation can begin. -/
theorem setCtrl1Bit_ref {i : Instr} {s : State} {d : RefDev} {mask : Byte} {b : Bool} (field : FieldMap → Field)
    (as : List Assign) (hs : AtStart s) (hd : AtRefDev s.cfg s d)
    (h : ∀ u, exec i u = runScript (startWith as (setBit (field u.cfg.chip.fields) b u)) [] 0 u)
    (hreg : (field .default).reg = .ctrl1) (hmask : (field .default).mask = mask) :
    ∃ t, execSteps i 9 s = .next t ∧ AtStart t ∧ AtRefDev t.cfg t { d with ctrl1 := bitSet mask b d.ctrl1 } := by
  obtain ⟨t, hrun, hdev⟩ := setBit_ref (old := d.ctrl1) field as hs hd h (by rw [hreg]; rfl) hmask
  rw [hreg] at hdev
  obtain ⟨m, old, m0, m1, dev, n, hafter⟩ := execSteps_modify (new := withBit (field s.cfg.chip.fields) b)
    (addr := s.cfg.addr (field s.cfg.chip.fields).reg) as hs fun u hu => by rw [h, setBit, hu]; rfl
  obtain rfl := Host.Outcome.next.inj (hrun.symm.trans hafter)
  exact ⟨_, hrun, ⟨rfl, rfl, rfl⟩, rfl, (congrArg Params.chip (assignAll_cfg as s)).trans hd.chip, hdev, hd.link⟩

/-- Such a setter and then the same with the other value. -/
theorem setCtrl1Bit_back_ref {S : Bool → Instr} {s : State} {d : RefDev} {mask : Byte} (field : FieldMap → Field)
    (as : Bool → List Assign) (b : Bool) (hs : AtStart s) (hd : AtRefDev s.cfg s d)
    (h : ∀ c u, exec (S c) u = runScript (startWith (as c) (setBit (field u.cfg.chip.fields) c u)) [] 0 u)
    (hreg : (field .default).reg = .ctrl1) (hmask : (field .default).mask = mask) :
    ∃ t1 t2 c, execSteps (S b) 9 s = .next t1 ∧ execSteps (S (!b)) 9 t1 = .next t2 ∧
      t2.dev = .ref { d with ctrl1 := c } ∧ c &&& (0xFF ^^^ mask) = d.ctrl1 &&& (0xFF ^^^ mask) ∧
      c &&& mask = (if b then 0 else mask) := by
  subst hmask
  obtain ⟨t1, hrun1, hs1, hd1⟩ := setCtrl1Bit_ref field (as b) hs hd (h b) hreg rfl
  obtain ⟨t2, hrun2, _, hd2⟩ := setCtrl1Bit_ref field (as (!b)) hs1 hd1 (h (!b)) hreg rfl
  exact ⟨t1, t2, _, hrun1, hrun2, hd2.dev, bitSet_not_bitSet (field .default) b d.ctrl1⟩

/-- Settles O46: the seven setters, each set and set back. -/
theorem settingAndResettingRestoresOtherBits : Obligations.SettingAndResettingRestoresOtherBits := by
  intro s r b hs hdev hlink hchip
  have hd : AtRefDev s.cfg s r := ⟨rfl, hchip, hdev, hlink⟩
  simp only [List.forall_mem_cons, List.not_mem_nil, false_implies, implies_true, and_true]
  exact ⟨setCtrl1Bit_back_ref (·.linef) (fun _ => []) b hs hd (fun _ _ => rfl) rfl rfl,
    setCtrl1Bit_back_ref (·.ub) (fun _ => []) b hs hd (fun _ _ => rfl) rfl rfl,
    setCtrl1Bit_back_ref (·.extclk) (fun _ => []) b hs hd (fun _ _ => rfl) rfl rfl,
    setCtrl1Bit_back_ref (·.refbuf) (fun _ => []) b hs hd (fun _ _ => rfl) rfl rfl,
    setCtrl1Bit_back_ref (·.sigbuf) (fun _ => []) b hs hd (fun _ _ => rfl) rfl rfl,
    setCtrl1Bit_back_ref (·.format) (fun _ => []) b hs hd (fun _ _ => rfl) rfl rfl,
    setCtrl1Bit_back_ref (·.scycle) (fun c => [.scycleMirror c]) b hs hd (fun _ _ => rfl) rfl rfl⟩

end Sys2Proof.Machine

/-! ## The GPIO family (44_config_ctrl2_gpio.md): the accessors of the pins of CTRL2

PROOFS. A pin that exists is a single-bit field of CTRL2, at its place in the nibble (R52), so its accessors are those
of such a field; the accessors of another pin run an empty script, whose first step is the `respond` (R244). -/

namespace Sys2Proof.Machine

/-! ### A pin that exists -/

/-- A GPIO setter of a pin that exists modifies the pin's bit of its nibble (R240, R242). -/
theorem modifiesPin_of_exec {i : Instr} {nibble : FieldMap → Field} {pin : Nat} {rf wf mask : Byte} {b : Bool}
    (hpin : pin < 4) (h : ∀ u, exec i u = runSetPin (nibble u.cfg.chip.fields) pin b u)
    (hrf : ((RegAddr.default.at (nibble .default).reg &&& 0xF) <<< 1) ||| 0xC1 = rf)
    (hwf : ((RegAddr.default.at (nibble .default).reg &&& 0xF) <<< 1) ||| 0xC0 = wf)
    (hmask : (pinField (nibble .default) pin).mask = mask) :
    ModifiesBit i (fun m => pinField (nibble m) pin) rf wf mask b :=
  modifiesBit_of_exec (fun u => (h u).trans (runSetPin_of_lt hpin)) hrf hwf hmask

/-- A GPIO getter of a pin that exists reads the pin's bit of its nibble (R241, R243). -/
theorem readsPin_of_exec {i : Instr} {nibble : FieldMap → Field} {pin k : Nat} {frame : Byte}
    (hpin : pin < 4) (h : ∀ u, exec i u = runGetPin (nibble u.cfg.chip.fields) pin u)
    (hframe : ((RegAddr.default.at (nibble .default).reg &&& 0xF) <<< 1) ||| 0xC1 = frame)
    (hplace : (nibble .default).shift + pin = k) (hk : k < 8) :
    ReadsField i (fun m => pinField (nibble m) pin) frame (bitOf k) :=
  readsBit_of_exec (fun u => (h u).trans (runGetPin_of_lt hpin)) hframe (congrArg (1#8 <<< ·) hplace) hplace hk

/-- A single-bit write keeps the bits `keep` that its mask spares (R146). -/
theorem bitSet_and_of_spared {mask keep : Byte} (b : Bool) (old : Byte) (h : (0xFF ^^^ mask) &&& keep = keep) :
    bitSet mask b old &&& keep = old &&& keep := by
  have hspared : bitSet mask b old &&& (0xFF ^^^ mask) = old &&& (0xFF ^^^ mask) :=
    withBit_and_compl ⟨.ctrl2, mask, 0, 1⟩ b old
  rw [← h, ← BitVec.and_assoc, hspared, BitVec.and_assoc]

/-! ### A pin that does not exist (R244) -/

/-- A GPIO setter of a pin that does not exist responds 0 at once. -/
theorem runSetPin_of_ge {nibble : Field} {pin : Nat} {b : Bool} {s : State} (hpin : 4 ≤ pin) (hop : s.opstep = 0) :
    runSetPin nibble pin b s = .next (responded s 0) := by
  rw [runSetPin, pinInRange, nGpio, if_neg (by simp [hpin])]
  exact runScript_respond hop

/-- A GPIO getter of a pin that does not exist draws a free Bool and responds it at once (U4). -/
theorem runGetPin_of_ge {nibble : Field} {pin : Nat} {s : State} (hpin : 4 ≤ pin) (hop : s.opstep = 0) :
    runGetPin nibble pin s = .next { (responded s ((BitVec.ofBool (Config.freePin s.draws)).setWidth 32)) with
      draws := s.draws + 1 } := by
  have hvalue : boolResponse (Config.freePin s.draws) = (BitVec.ofBool (Config.freePin s.draws)).setWidth 32 := by
    cases Config.freePin s.draws <;> rfl
  rw [runGetPin, pinInRange, nGpio, if_neg (by simp [hpin]), hvalue]
  exact runScript_respond hop

/-! ### Obligations on the GPIO accessors -/

/-- Settles O30: the pin's bit lies in one nibble of CTRL2; a pin that does not exist leaves only the `respond`. -/
theorem gpioSettersModifyTheirPin : Obligations.GpioSettersModifyTheirPin := by
  refine ⟨fun pin b hpin => ⟨?dir, ?value⟩, fun pin b old hpin => ⟨?low, ?high⟩, fun pin b s hpin hop =>
    ⟨runSetPin_of_ge hpin hop, runSetPin_of_ge hpin hop⟩, fun pin b => ?requests⟩
  case dir => exact modifiesPin_of_exec (nibble := (·.dir)) hpin (fun _ => rfl) rfl rfl rfl
  case value =>
    exact modifiesPin_of_exec (nibble := (·.dio)) hpin (fun _ => rfl) rfl rfl (pinField_dio_mask pin)
  case low => exact bitSet_and_of_spared b old (by interval_cases pin <;> rfl)
  case high => exact bitSet_and_of_spared b old (by interval_cases pin <;> rfl)
  case requests =>
    simp only [List.forall_mem_cons, List.not_mem_nil, false_implies, implies_true, and_true]
    constructor
    all_goals
      exact ⟨requestOf_of_fields fun w htop hop ha hb _ => by simp [decodeRequest, htop, hop, ha pin rfl, hb b rfl],
        needsBegin_of_ne (by simp)⟩

/-- Settles O31: the pin's bit of CTRL2, or the free Bool drawn. -/
theorem gpioGettersReadTheirPin : Obligations.GpioGettersReadTheirPin := by
  refine ⟨fun pin hpin => ⟨?dir, ?value⟩, fun pin s hpin hop =>
    ⟨_, _, runGetPin_of_ge hpin hop, runGetPin_of_ge hpin hop⟩, fun pin => ?requests⟩
  case dir => exact readsPin_of_exec (nibble := (·.dir)) hpin (fun _ => rfl) rfl rfl (by omega)
  case value => exact readsPin_of_exec (nibble := (·.dio)) hpin (fun _ => rfl) rfl (Nat.zero_add pin) (by omega)
  case requests =>
    simp only [List.forall_mem_cons, List.not_mem_nil, false_implies, implies_true, and_true]
    constructor
    all_goals
      exact ⟨requestOf_of_fields fun w htop hop ha _ _ => by simp [decodeRequest, htop, hop, ha pin rfl],
        needsBegin_of_ne (by simp)⟩

end Sys2Proof.Machine

/-! ## The CTRL3 family (45_config_ctrl3.md): the gain and the calibration-enable bits

PROOFS. The calibration-enable bits have the accessors of a single-bit field (R53). `setGain` is the read-modify-write of
a wider field: the new byte packs a code of 3 bits (R147), and the clamp keeps the gain below 8 (R260). -/

namespace Sys2Proof.Machine

/-- A setter of a field of FIELD_MAP (R147), with the frame bytes and the new byte that the constants of R7 give; the
code `code p` may depend on the constants. -/
theorem modifiesField_of_exec {i : Instr} {field : FieldMap → Field} {code : Params → Nat} {rf wf : Byte}
    {literal : Byte → Byte}
    (h : ∀ u, exec i u = runScript (setField (field u.cfg.chip.fields) (code u.cfg) u) [] 0 u)
    (hrf : ((RegAddr.default.at (field .default).reg &&& 0xF) <<< 1) ||| 0xC1 = rf)
    (hwf : ((RegAddr.default.at (field .default).reg &&& 0xF) <<< 1) ||| 0xC0 = wf)
    (hliteral : ∀ p : Params, p.chip = .default → ∀ old, withField (field .default) (code p) old = literal old) :
    Modifies i (fieldReg field) rf wf (fun p => withField (field p.chip.fields) (code p)) literal := by
  refine modifies_of_exec h hrf hwf fun p hp => ⟨by rw [fieldReg, hp]; rfl, fun old => ?_⟩
  rw [hp]
  exact hliteral p hp old

/-- The clamp of the gain under the constants of R7: GAIN_MAX is 4 (R260). -/
theorem clampGain_default {p : Params} (hp : p.chip = .default) (g : Nat) : clampGain p g = min g 4 := by
  rw [clampGain, hp]
  rfl

/-- A clamped gain fits the 3 bits of its field (R53, R260). -/
theorem clampedGain_lt (g : Nat) : min g 4 < 8 :=
  (min_le_right g 4).trans_lt (by decide)

/-- Settles O32: a read-modify-write of the field of the gain, whose code is the clamped gain. -/
theorem setGainClampsAndPacks : Obligations.SetGainClampsAndPacks := by
  refine ⟨fun g => ?modifies, fun g old => ?packs, fun p hp => ?examples, fun g => ?request⟩
  case modifies =>
    refine modifiesField_of_exec (field := (·.dgain)) (code := (clampGain · g)) (fun _ => rfl) rfl rfl
      fun p hp old => ?_
    rw [clampGain_default hp]
    rfl
  case packs => exact (withField_dgain (clampedGain_lt g) old).symm
  case examples =>
    rw [clampGain_default hp, clampGain_default hp, hp]
    exact ⟨rfl, rfl⟩
  case request =>
    simp only [List.forall_mem_singleton]
    exact ⟨requestOf_of_fields fun w htop hop ha _ _ => by simp [decodeRequest, htop, hop, ha g rfl],
      needsBegin_of_ne (by simp)⟩

/-- Settles O33: the field of the gain as read and four bits of the CTRL3 byte, and the five requests. -/
theorem ctrl3GettersReadTheirField : Obligations.Ctrl3GettersReadTheirField := by
  refine ⟨readsField_of_exec (fun _ => rfl) rfl (fun _ => rfl),
    readsBit_of_exec (fun _ => rfl) rfl rfl rfl (by decide),
    readsBit_of_exec (fun _ => rfl) rfl rfl rfl (by decide),
    readsBit_of_exec (fun _ => rfl) rfl rfl rfl (by decide),
    readsBit_of_exec (fun _ => rfl) rfl rfl rfl (by decide), ?_⟩
  simp only [List.forall_mem_cons, List.not_mem_nil, false_implies, implies_true, and_true]
  refine ⟨?_, ?_, ?_, ?_, ?_⟩
  all_goals
    exact requestOf_and_needsBegin_of_op (fun w htop hop => by simp [decodeRequest, htop, hop]) (by simp)

/-- Settles O34: four bits of CTRL3, each by one `setBit`, and the four requests. -/
theorem ctrl3SettersModifyTheirBit : Obligations.Ctrl3SettersModifyTheirBit := by
  refine fun b => ⟨modifiesBit_of_exec (fun _ => rfl) rfl rfl rfl, modifiesBit_of_exec (fun _ => rfl) rfl rfl rfl,
    modifiesBit_of_exec (fun _ => rfl) rfl rfl rfl, modifiesBit_of_exec (fun _ => rfl) rfl rfl rfl, ?_⟩
  simp only [List.forall_mem_cons, List.not_mem_nil, false_implies, implies_true, and_true]
  refine ⟨?_, ?_, ?_, ?_⟩
  all_goals
    exact requestOf_and_needsBegin_of_bit (fun w htop hop hb => by simp [decodeRequest, htop, hop, hb]) (by simp)

end Sys2Proof.Machine

/-! ## The calibration register family (46_calibration_regs.md): four 24-bit registers

PROOFS. A getter is one `readTriple` of its register and a setter one `writeTriple`, as the frame rows of those registers
are (R280 to R287); the op of R116 selects the accessor, and a setter takes its data from bits 23:0 of the word. -/

namespace Sys2Proof.Machine

/-- A request whose operand is its data word: the op and those 24 bits fix the instruction, and it needs `begin`
(R116, R302). -/
theorem requestOf_and_needsBegin_of_data {op : Nat} {d : Word24} {i : Instr}
    (h : ∀ w, reqTop w = 0 → (reqOp w).toNat = op → reqData w = d → decodeRequest w = .ok i) (hi : i ≠ .beginOp) :
    RequestOf op none none (some d) i ∧ NeedsBegin i :=
  ⟨requestOf_of_fields fun w htop hop _ _ hd => h w htop hop (hd d rfl), needsBegin_of_ne hi⟩

/-- Settles O35: one `readTriple` for each register, and the four requests. -/
theorem calibrationRegisterGetters : Obligations.CalibrationRegisterGetters := by
  refine ⟨readsTriple_of_exec (fun _ => rfl) rfl, readsTriple_of_exec (fun _ => rfl) rfl,
    readsTriple_of_exec (fun _ => rfl) rfl, readsTriple_of_exec (fun _ => rfl) rfl, ?_⟩
  simp only [List.forall_mem_cons, List.not_mem_nil, false_implies, implies_true, and_true]
  refine ⟨?_, ?_, ?_, ?_⟩
  all_goals
    exact requestOf_and_needsBegin_of_op (fun w htop hop => by simp [decodeRequest, htop, hop]) (by simp)

/-- Settles O36: one `writeTriple` of the data for each register, and the four requests. -/
theorem calibrationRegisterSetters : Obligations.CalibrationRegisterSetters := by
  refine fun d => ⟨writesTriple_of_exec (fun _ => rfl) rfl, writesTriple_of_exec (fun _ => rfl) rfl,
    writesTriple_of_exec (fun _ => rfl) rfl, writesTriple_of_exec (fun _ => rfl) rfl, ?_⟩
  simp only [List.forall_mem_cons, List.not_mem_nil, false_implies, implies_true, and_true]
  refine ⟨?_, ?_, ?_, ?_⟩
  all_goals
    exact requestOf_and_needsBegin_of_data (fun w htop hop hd => by simp [decodeRequest, htop, hop, hd]) (by simp)

end Sys2Proof.Machine

/-! ## The exceptions family (60_exceptions.md), reset (70_reset_and_hazards.md), and the placed table word

PROOFS. A fault is raised by a presentation or by a sample that times out, and by nothing else (R301 to R307); a halted
Block leaves it by a reset only (R308), which R340 makes the state after reset but for the inputs; and a table word placed
by withFetchWord is decoded as the table decodes it (notes/assumptions/12.md). -/

namespace Sys2Proof.Machine

/-! ### The Block reset (R308, R340, R341) -/

theorem resetNow_eq_true_iff (s : State) : resetNow s = true ↔ ∃ rest, s.hostIn = .reset :: rest := by
  unfold resetNow
  split <;> simp_all

/-- A reset by the Host: the reset state, with the later moves kept. -/
theorem step_of_hostReset {s : State} {rest : List HostMove} (h : s.hostIn = .reset :: rest) :
    step s = .next (blockReset { s with hostIn := rest }) := by
  have hbegin : beginStep s = { s with hostIn := rest, respValid := false } := by simp [beginStep, h]
  rw [step_of_reset ((resetNow_eq_true_iff s).mpr ⟨rest, h⟩), hbegin]
  rfl

/-- Settles O1: both states hold the reset values of R340 by definition, and their traces are empty. -/
theorem resetValuesOfEveryElement : Obligations.ResetValuesOfEveryElement := by
  intro s t ht
  obtain rfl | rfl : t = blockReset s ∨ t = State.reset := by simpa using ht
  all_goals exact ⟨rfl, rfl, rfl, rfl, rfl, rfl, rfl, rfl, rfl, rfl, rfl, rfl, fun _ h => absurd h List.not_mem_nil⟩

/-- Settles O2: a reset deselects the Device, which changes neither its registers nor its answers (R341). -/
theorem hostResetRunsBlockReset : Obligations.HostResetRunsBlockReset := by
  refine ⟨fun s rest h => step_of_hostReset h, fun s rest r h hdev => ?_, fun s rest a h hdev => ?_⟩
  · exact ⟨_, .frame, step_of_hostReset h, congrArg Device.select hdev⟩
  · exact ⟨_, step_of_hostReset h, congrArg Device.select hdev⟩

/-- Settles O5: without a reset the Block is halted, and a reset clears the fault. -/
theorem faultedBlockTakesNoStep : Obligations.FaultedBlockTakesNoStep :=
  ⟨fun s hf hr => step_of_fault hf ((resetNow_eq_false_iff s).mpr hr),
    fun _ _ _ h => ⟨_, step_of_hostReset h, rfl, rfl⟩⟩

/-- Settles O50: the state after reset is idle, unconfigured and without a fault. -/
theorem busDisciplineHoldsAtReset : Obligations.BusDisciplineHoldsAtReset :=
  ⟨busDisciplined_of_idle rfl rfl rfl ⟨rfl, rfl, rfl, rfl, rfl⟩,
    busConfigured_of_idle rfl rfl (iff_of_true rfl rfl)⟩

/-! ### The steps that raise a fault (R301 to R307) -/

/-- A presentation leaves a fault only by raising one of the three of R302 to R304. -/
theorem present_fault {w : ReqWord} {s : State} (hf : s.fault = 0) (h : (present w s).fault ≠ 0) :
    ∃ f : BlockFault, f.code ≠ 4 ∧ present w s = raise f s := by
  rcases present_spec w s with ⟨_, hp⟩ | ⟨_, _, hp⟩ | ⟨_, _, hp⟩ | ⟨_, i, _, _, hp⟩
  · exact ⟨.requestWhileBusy w, by simp [BlockFault.code], hp⟩
  · exact ⟨.illegalRequest w, by simp [BlockFault.code], hp⟩
  · exact ⟨.notInitialized w, by simp [BlockFault.code], hp⟩
  · exact absurd (by rw [hp]; exact hf) h

/-- A step of an instruction leaves a fault only where a sample of `read` times out (R306). -/
theorem exec_fault {i : Instr} {s t : State} (h : exec i s = .next t) (hf : s.fault = 0) (hne : t.fault ≠ 0) :
    i = .readOp ∧ ∃ m, TimedOutAt m s t := by
  obtain ⟨script, final, v, n, R, ⟨m, hm, hdone | hstall | hout⟩ | ⟨_, rfl⟩⟩ := exec_prim_or_respond h
  · exact absurd (hdone.fault.trans hf) hne
  · exact absurd (hstall.fault.trans hf) hne
  · exact ⟨(R.sample _ m hm hout.sample).1, m, hout⟩
  · exact absurd (by simpa using hf) hne

/-- A step raises a fault in one of two ways: at the request port, or at a sample of a running `read` while nothing is
presented (R302 to R307). -/
theorem step_fault_cases {s t : State} (h : step s = .next t) (hf : s.fault = 0) (hne : t.fault ≠ 0) :
    (∃ f : BlockFault, f.code ≠ 4 ∧ t = raise f (beginStep s)) ∨
    (requestNow s = none ∧ s.busy = true ∧ inFlight s = some .readOp ∧ ∃ m, TimedOutAt m (beginStep s) t) := by
  rcases step_cases s with ⟨_, hs⟩ | ⟨_, _, hs⟩ | ⟨_, _, w, _, hs⟩ |
    ⟨_, _, hq, hb, ⟨i, hi, hs⟩ | ⟨_, hs⟩⟩ | ⟨_, _, _, _, hs⟩ <;> rw [h] at hs
  · obtain rfl := Host.Outcome.next.inj hs
    exact absurd rfl hne
  · cases hs
  · obtain rfl := Host.Outcome.next.inj hs
    exact .inl (present_fault (s := beginStep s) hf hne)
  · obtain ⟨rfl, hout⟩ := exec_fault (s := beginStep s) hs.symm hf hne
    exact .inr ⟨hq, hb, hi, hout⟩
  · cases hs
  · obtain rfl := Host.Outcome.next.inj hs
    exact absurd hf hne

/-- Settles O6: fault entry halts the Block in both cases, and a faulted Block steps by a reset only. -/
theorem faultIsSetOnlyByRaising : Obligations.FaultIsSetOnlyByRaising := by
  refine ⟨fun s t h hf hne => ?_, fun s t h hf => ?_⟩
  · rcases step_fault_cases h hf hne with ⟨f, _, rfl⟩ | ⟨_, _, _, m, hout⟩
    · rw [raise_spec]
      exact ⟨f.code_range.2, rfl, rfl, rfl, rfl⟩
    · exact ⟨by rw [hout.fault]; decide, hout.busy, hout.cs, hout.kept.rsp, hout.respValid⟩
  · have hr : resetNow s = true := by
      by_contra hr
      cases h.symm.trans (step_of_fault hf (Bool.eq_false_of_not_eq_true hr))
    obtain ⟨rest, hhost⟩ := (resetNow_eq_true_iff s).mp hr
    obtain rfl := Host.Outcome.next.inj (h.symm.trans (step_of_hostReset hhost))
    exact ⟨rfl, rest, hhost⟩

/-- The priority of R307: what a presentation raises, by the condition that comes first. -/
theorem present_raises {w : ReqWord} {s : State} {code : BitVec 8}
    (h : (s.busy = true ∧ code = 2) ∨ (s.busy = false ∧ (∀ i, decodeRequest w ≠ .ok i) ∧ code = 3) ∨
      (s.busy = false ∧ (∃ i, decodeRequest w = .ok i ∧ i ≠ .beginOp) ∧ s.phase = .uninitialized ∧ code = 1)) :
    ∃ f : BlockFault, f.code = code ∧ f.recorded s.curReq = some w ∧ present w s = raise f s := by
  rcases h with ⟨hb, rfl⟩ | ⟨hb, hd, rfl⟩ | ⟨hb, ⟨i, hd, hi⟩, hp, rfl⟩
  · exact ⟨.requestWhileBusy w, rfl, rfl, present_of_busy hb⟩
  · cases he : decodeRequest w with
    | error e => exact ⟨.illegalRequest w, rfl, rfl, present_of_error hb he⟩
    | ok i => exact absurd he (hd i)
  · exact ⟨.notInitialized w, rfl, rfl, present_of_uninitialized hb hd hp hi⟩

/-- Settles O4: the fault that a presentation raises, and that no presentation raises ReadTimeout. -/
theorem requestFaultsByPriority : Obligations.RequestFaultsByPriority := by
  refine ⟨fun s w rest code hf hhost hcode => ?_, fun s t h hf hfour => ?_⟩
  · have hr : resetNow s = false := by rcases hhost with hh | ⟨hh, _⟩ <;> simp [resetNow, hh]
    have hq : requestNow s = some w := by
      rcases hhost with hh | ⟨hh, hb⟩
      · simp [requestNow, hh]
      · simp [requestNow, hh, hb]
    obtain ⟨f, rfl, hrec, hpresent⟩ := present_raises (s := beginStep s) hcode
    refine ⟨_, step_of_request hf hr hq, ?_⟩
    rw [hpresent, raise_spec]
    exact ⟨rfl, rfl, hrec, rfl, rfl, rfl, rfl, rfl, rfl, rfl, rfl, rfl, rfl, rfl, rfl⟩
  · rcases step_fault_cases h hf (by rw [hfour]; decide) with ⟨f, hf4, rfl⟩ | ⟨hq, hb, hi, _⟩
    · rw [raise_spec] at hfour
      exact absurd hfour hf4
    · exact ⟨hb, hi, fun w rest hhost => by simp [requestNow, hhost] at hq⟩

/-! ### The poll of read (R306, R309) -/

/-- Settles O7: a counted sample raises ReadTimeout where the count has reached P_READ_TIMEOUT. -/
theorem readTimeoutAtTheNthSample : Obligations.ReadTimeoutAtTheNthSample := by
  refine ⟨fun s l ls N hop hready hl hcs hN hle => ?_, fun s l ls hop hready hl hin => ?_, rfl⟩
  · rw [exec_read_timeout hop hready hl (timedOut_iff.mpr ⟨N, hN, hle⟩), raise_spec]
    simp [hcs, BlockFault.code, BlockFault.recorded]
  · refine exec_read_notReady hop hready hl (Bool.eq_false_of_not_eq_true fun hout => ?_)
    obtain ⟨N, hN, hle⟩ := timedOut_iff.mp hout
    exact absurd (hin N hN) (Nat.not_lt.mpr hle)

/-- Settles O43: the turns of the loop, of which no count of P_READ_TIMEOUT = none is the last (R309). -/
theorem readNeverCompletesOnAnUnassertedLine : Obligations.ReadNeverCompletesOnAnUnassertedLine := by
  refine ⟨fun k s levels hop hw hpolls hready ht hnone => ?_,
    fun s rest hop ht => exec_delay_never (delayDue_read hop) ht⟩
  have hloop := execSteps_polls k 0 (by rw [hop, hpolls]) hw hready ht (by simp [hnone])
  rw [hpolls, Nat.zero_add] at hloop
  exact hloop

end Sys2Proof.Machine

namespace Sys2Proof

/-! ### A table word placed as the instruction in flight (notes/assumptions/12.md) -/

/-- Of the parameters, decoding reads the chip constants and P_START only. -/
theorem decode_congr {p q : Params} (hchip : p.chip = q.chip) (hstart : p.start = q.start) (c : Encoded) :
    decode p c = decode q c := by
  obtain ⟨⟩ := p
  obtain ⟨⟩ := q
  obtain rfl := hchip
  obtain rfl := hstart
  rfl

end Sys2Proof

namespace Sys2Proof.Machine

theorem quietMoves_ne_now (moves : List HostMove) (w : ReqWord) (rest : List HostMove) :
    quietMoves moves ≠ .now w :: rest := by
  induction moves with
  | nil => simp [quietMoves]
  | cons m ms ih => cases m <;> simp [quietMoves, ih]

theorem quietMoves_ne_reset (moves rest : List HostMove) : quietMoves moves ≠ .reset :: rest := by
  induction moves with
  | nil => simp [quietMoves]
  | cons m ms ih => cases m <;> simp [quietMoves, ih]

/-- A placed word is in flight as what it decodes to. -/
theorem inFlight_withFetchWord (s : State) (nbits w : Nat) :
    inFlight (s.withFetchWord nbits w) = (decode s.cfg (tableEncoded nbits w)).toOption := by
  cases h : tableEncoded nbits w <;> simp [inFlight, State.withFetchWord, h, decode]

/-- Settles O9: nothing is presented in the coming step, and the word decodes as under the default parameters. -/
theorem placedTableWordRunsNext : Obligations.PlacedTableWordRunsNext := by
  intro s nbits w i hchip hstart hi
  have hflight : inFlight (s.withFetchWord nbits w) = some i := by
    rw [inFlight_withFetchWord, decode_congr (q := .default) hchip hstart]
    exact hi
  have hr : resetNow (s.withFetchWord nbits w) = false :=
    (resetNow_eq_false_iff _).mpr (quietMoves_ne_reset s.hostIn)
  have hq : requestNow (s.withFetchWord nbits w) = none := requestNow_of_busy rfl (quietMoves_ne_now s.hostIn)
  exact ⟨_, step_of_inFlight rfl rfl hr hq hflight, ⟨rfl, rfl, rfl⟩, rfl, rfl, rfl, rfl, rfl, rfl, rfl⟩

end Sys2Proof.Machine
